-- ==== Sys2Proof/Word.lean ====
section
/-! DEFINITION. The widths of the machine (spec/00_scope.md R12): 8-bit data, 16-bit addresses. -/

namespace Sys2Proof

/-- Every data value, register and memory cell is 8 bits (`XLEN`, 00_scope.md R12). -/
abbrev Byte := BitVec 8

/-- Every address and the program counter are 16 bits (`ALEN`, 00_scope.md R12). -/
abbrev Addr := BitVec 16

end Sys2Proof
end

