-- ==== Sys2Proof/Config.lean ====
section
/-! DEFINITION. The parameters of the block (spec/00_scope.md R12): the fixed constants, the decided decimal policy, the OPEN parameters
of a session (`Params`) and its launch arguments (`Launch`, spec/70_reset_and_hazards.md R341). -/

namespace Sys2Proof

/-- `CHIP_BASE`, the first address of the chip register window (47_chip_tracker.md R261). -/
def Config.chipBase : Addr := 0xD400

/-- The last address of the chip register window, `CHIP_BASE + 0x18` (47_chip_tracker.md R261). -/
def Config.chipLast : Addr := 0xD418

/-- High byte of every stack address (`STACK_PAGE` = 0x0100, 00_scope.md R12). -/
def Config.stackPage : Byte := 0x01

/-- Address of the low byte of the BRK vector; the high byte follows it (`BRK_VECTOR`, 00_scope.md R12). -/
def Config.brkVector : Addr := 0xFFFE

/-- `FRAME_BASE`, the index of the first frame (00_scope.md R12). -/
def Config.frameBase : Nat := 0

/-- Default of the OPEN parameter `INIT_A` (00_scope.md R12). -/
def Config.initADefault : Byte := 0x00

/-- What ADC and SBC do with `D = 1`: the three values of `DECIMAL_POLICY` (42_logic_arith.md R178). -/
inductive DecimalPolicy where
  /-- raise `UnsupportedOpcode` and change nothing: the decided policy -/
  | fault
  /-- ignore `D` (93_implementation_defined.md U3) -/
  | binary
  /-- the NMOS 6502's decimal results (93_implementation_defined.md U3) -/
  | nmosBcd
deriving DecidableEq, Repr

/-- `DECIMAL_POLICY = fault`, as decided (00_scope.md R12, 42_logic_arith.md R178). -/
def Config.decimalPolicy : DecimalPolicy := .fault

/-- `CLOCK_FLAG`: carried for the Frame Driver's metadata and read by no rule (00_scope.md R12, 60_exceptions.md R321). -/
inductive ClockFlag where
  | hz50
  | hz60
deriving DecidableEq, Repr

/-- The OPEN parameters of a session, arguments of the model (00_scope.md R12). -/
structure Params where
  /-- `SENTINEL` -/
  sentinel : Addr
  /-- `INIT_CEILING`, in cycles -/
  initCeiling : Nat
  /-- `PLAY_CEILING`, in cycles -/
  playCeiling : Nat
  /-- `INIT_A` -/
  initA : Byte
  /-- `CLOCK_FLAG` -/
  clockFlag : ClockFlag
deriving DecidableEq, Repr

/-- The host's optional addresses: an explicit load address and overrides of the two entry addresses
(70_reset_and_hazards.md R341, R342). -/
structure Overrides where
  loadAddr : Option Addr
  initAddr : Option Addr
  playAddr : Option Addr
deriving DecidableEq, Repr

/-- The launch arguments of a session, the Loader's outputs and the frame count (70_reset_and_hazards.md R341). -/
structure Launch where
  loadAddr : Addr
  payload : List Byte
  initAddr : Addr
  playAddr : Addr
  frameCount : Nat
deriving DecidableEq, Repr

end Sys2Proof
end

