-- ==== Sys2Proof/Machine/State.lean ====
section
/-! DEFINITION. The state of the block (spec/10_state.md): CPU registers, flags, memory image, the tracker's voice and filter bytes, its
pending events, the current frame index, the running cycle sum and the Trace; the faults and refusals; the session reset. All of it is
plain data. -/

namespace Sys2Proof.Machine

/-- The six stored flag bits (10_state.md R28). -/
structure Flags where
  n : Bool
  v : Bool
  d : Bool
  i : Bool
  z : Bool
  c : Bool
deriving DecidableEq, Repr

/-- The MemoryImage (10_state.md R40), as address and byte pairs in one canonical form: addresses strictly rising, no byte equal to
0x00, which is what an unlisted address reads as (R55; log 16). -/
abbrev Memory := List Host.Cell

/-- The stored record of one voice (10_state.md R45): the bytes as written, and the frame of the last write to the voice. -/
structure Voice where
  freqLo : Byte
  freqHi : Byte
  pwLo : Byte
  pwHi : Byte
  ctrl : Byte
  ad : Byte
  sr : Byte
  lastWrite : Option Nat
deriving DecidableEq, Repr

/-- The tracker's stored bytes: `voice[1..3]` and `filt[0..3]` (10_state.md R45, R46). -/
structure Tracker where
  voice1 : Voice
  voice2 : Voice
  voice3 : Voice
  filt0 : Byte
  filt1 : Byte
  filt2 : Byte
  filt3 : Byte
deriving DecidableEq, Repr

/-- A RegisterWriteEvent (10_state.md R47): frame index, full memory address, byte. -/
structure Event where
  frame : Nat
  addr : Addr
  value : Byte
deriving DecidableEq, Repr

/-- The consumer's view of a voice (47_chip_tracker.md R270). -/
structure VoiceView where
  frequency : BitVec 16
  pulseWidth : BitVec 12
  control : Byte
  gate : Bool
  attack : BitVec 4
  decay : BitVec 4
  sustain : BitVec 4
  release : BitVec 4
  lastWrite : Option Nat
deriving DecidableEq, Repr

/-- A frame-end snapshot (47_chip_tracker.md R271): the three resolved voices, the shared filter/volume byte, and all four shared
bytes in order. -/
structure Snapshot where
  voice1 : VoiceView
  voice2 : VoiceView
  voice3 : VoiceView
  shared : Byte
  filter : List Byte
deriving DecidableEq, Repr

/-- A frame of the Trace (47_chip_tracker.md R272, 10_state.md R49). -/
structure Frame where
  frameIndex : Nat
  events : List Event
  snapshot : Snapshot
deriving DecidableEq, Repr

/-- The state of the block. -/
structure State where
  /-- `A`, the accumulator (10_state.md R21) -/
  a : Byte
  /-- `X` (10_state.md R22) -/
  x : Byte
  /-- `Y` (10_state.md R23) -/
  y : Byte
  /-- `SP`, the low byte of the next free stack slot's address (10_state.md R24) -/
  sp : Byte
  /-- `PC`, between steps the address of the next opcode byte (10_state.md R25) -/
  pc : Addr
  /-- `N, V, D, I, Z, C` (10_state.md R28) -/
  flags : Flags
  /-- the MemoryImage (10_state.md R40) -/
  mem : Memory
  /-- `voice[1..3]` and `filt[0..3]` (10_state.md R45, R46) -/
  tracker : Tracker
  /-- `pending`, oldest event first (10_state.md R47) -/
  pending : List Event
  /-- `cur_frame` (10_state.md R48) -/
  curFrame : Nat
  /-- the running sum of cycle costs of the current `run_until` (10_state.md R39, 60_exceptions.md R321; log 4) -/
  used : Nat
  /-- the Trace's frames, first frame first (10_state.md R49; log 5) -/
  trace : List Frame
deriving DecidableEq, Repr

/-- What stops a run (60_exceptions.md R300). -/
inductive Fault where
  /-- Raised by `step()` when the byte at `PC` is an undefined opcode, or ADC or SBC begins with `D = 1`; it carries the address and
  value of the opcode byte, and no state has changed (60_exceptions.md R301). Safe: the machine stops exactly where the spec says. -/
  | unsupportedOpcode (pc : Addr) (opcode : Byte)
  /-- Raised by `run_until`, never by a step, when the cycle sum exceeds the ceiling while the predicate is false; it carries the next
  instruction's address and opcode byte and the cycles used (60_exceptions.md R302). Safe: the stop is the spec's. -/
  | infiniteLoopDetected (pc : Addr) (opcode : Byte) (used : Nat)
deriving DecidableEq, Repr

/-- What the model would refuse; the spec has no refusal (00_scope.md R16). -/
inductive Refusal where
  /-- Raised by an arm of `exec` whose instruction has no meaning yet. Safe: nothing is said of such an instruction. No arm of
  this model raises it. -/
  | notModelled (mnemonic : String)
deriving DecidableEq, Repr

/-- The outcome of one step (00_scope.md R16). -/
abbrev Result := Host.Outcome State Fault Refusal

/-- All six flags 0 (10_state.md R55). -/
def Flags.reset : Flags := ⟨false, false, false, false, false, false⟩

/-- A voice never written since session start (10_state.md R55). -/
def Voice.reset : Voice := ⟨0, 0, 0, 0, 0, 0, 0, none⟩

/-- The tracker at session start (10_state.md R55). -/
def Tracker.reset : Tracker := ⟨Voice.reset, Voice.reset, Voice.reset, 0, 0, 0, 0⟩

/-- The session reset for a given `INIT_A` (10_state.md R55, 70_reset_and_hazards.md R340). -/
def State.sessionReset (initA : Byte) : State :=
  { a := initA
    x := 0x00
    y := 0x00
    sp := 0xFF
    pc := 0x0000
    flags := Flags.reset
    mem := []
    tracker := Tracker.reset
    pending := []
    curFrame := Config.frameBase
    used := 0
    trace := [] }

/-- The machine right after reset: the session reset with `INIT_A` at the default the spec gives it (10_state.md R55; log 2). -/
def State.reset : State := State.sessionReset Config.initADefault

end Sys2Proof.Machine
end

