-- ==== Sys2Proof/Machine/Flags.lean ====
section
/-! DEFINITION. Every flag computation: `SetNZ`, the packing of the status byte, additions and subtractions of each decimal policy,
compares, BIT, and the one-operand functions of INC, DEC and the shifts. Quantities are computed exactly in `Nat` or `Int` and
narrowed at the end. -/

namespace Sys2Proof.Machine

/-- `SetNZ(v)` (10_state.md R33). -/
def setNZ (v : Byte) (f : Flags) : Flags := { f with n := v.getLsbD 7, z := v == 0 }

/-- One bit of the status image. -/
def bitAt (b : Bool) (k : Nat) : Byte := (if b then 1#8 else 0#8) <<< k

/-- `PackP(b)`: the flags as a byte, bit 5 = 1, bit 4 = `b` (10_state.md R35). -/
def packP (b : Bool) (f : Flags) : Byte :=
  bitAt f.n 7 ||| bitAt f.v 6 ||| 0x20 ||| bitAt b 4 ||| bitAt f.d 3 ||| bitAt f.i 2 ||| bitAt f.z 1 ||| bitAt f.c 0

/-- `UnpackP(v)`: all six flags from a byte, bits 5 and 4 dropped (10_state.md R36). -/
def unpackP (v : Byte) : Flags :=
  { n := v.getLsbD 7, v := v.getLsbD 6, d := v.getLsbD 3, i := v.getLsbD 2, z := v.getLsbD 1, c := v.getLsbD 0 }

/-- What an addition or subtraction gives: the new accumulator and the four arithmetic flags. -/
structure Alu where
  value : Byte
  n : Bool
  v : Bool
  z : Bool
  c : Bool
deriving DecidableEq, Repr

/-- Binary ADC (42_logic_arith.md R176): `t = A + M + C` as a natural number. -/
def adcBinary (a m : Byte) (c : Bool) : Alu :=
  let t := a.toNat + m.toNat + c.toNat
  let r := BitVec.ofNat 8 t
  { value := r
    n := r.getLsbD 7
    v := (~~~(a ^^^ m) &&& (a ^^^ r) &&& 0x80) != 0
    z := r == 0
    c := decide (t > 0xFF) }

/-- Binary SBC (42_logic_arith.md R177): `t = A - M - (1 - C)` as an integer. -/
def sbcBinary (a m : Byte) (c : Bool) : Alu :=
  let t : Int := (a.toNat : Int) - (m.toNat : Int) - (1 - (c.toNat : Int))
  let r := BitVec.ofInt 8 t
  { value := r
    n := r.getLsbD 7
    v := ((a ^^^ m) &&& (a ^^^ r) &&& 0x80) != 0
    z := r == 0
    c := decide (t ≥ 0) }

/-- ADC of the policy `nmos_bcd` (93_implementation_defined.md U3). -/
def adcNmosBcd (a m : Byte) (c : Bool) : Alu :=
  let bin := BitVec.ofNat 8 (a.toNat + m.toNat + c.toNat)
  let low := a.toNat % 0x10 + m.toNat % 0x10 + c.toNat
  let al := if low ≥ 0x0A then (low + 0x06) % 0x10 + 0x10 else low
  let t := a.toNat / 0x10 * 0x10 + m.toNat / 0x10 * 0x10 + al
  let adjusted := if t ≥ 0xA0 then t + 0x60 else t
  { value := BitVec.ofNat 8 adjusted
    n := t.testBit 7
    v := (~~~(a ^^^ m) &&& (a ^^^ BitVec.ofNat 8 t)).getLsbD 7
    z := bin == 0
    c := decide (adjusted ≥ 0x100) }

/-- SBC of the policy `nmos_bcd` (93_implementation_defined.md U3): flags as binary SBC, digits corrected. -/
def sbcNmosBcd (a m : Byte) (c : Bool) : Alu :=
  let low : Int := ((a.toNat % 0x10 : Nat) : Int) - ((m.toNat % 0x10 : Nat) : Int) + (c.toNat : Int) - 1
  let al := if low < 0 then (low - 0x06) % 0x10 - 0x10 else low
  let r := ((a.toNat / 0x10 * 0x10 : Nat) : Int) - ((m.toNat / 0x10 * 0x10 : Nat) : Int) + al
  let adjusted := if r < 0 then r - 0x60 else r
  { sbcBinary a m c with value := BitVec.ofInt 8 adjusted }

/-- The four arithmetic flags into the flag set, `D` and `I` unchanged (10_state.md R37). -/
def setAlu (r : Alu) (f : Flags) : Flags := { f with n := r.n, v := r.v, z := r.z, c := r.c }

/-- CMP, CPX, CPY of a register with a byte: N and Z from the difference, C = register >= byte, unsigned; V and D unchanged
(42_logic_arith.md R179). -/
def compareFlags (reg m : Byte) (f : Flags) : Flags :=
  { setNZ (reg - m) f with c := decide (reg ≥ m) }

/-- BIT: Z from `A & M`, N and V from bits 7 and 6 of `M` (42_logic_arith.md R174). -/
def bitFlags (a m : Byte) (f : Flags) : Flags :=
  { f with z := (a &&& m) == 0, n := m.getLsbD 7, v := m.getLsbD 6 }

/-- INC: `r = (v + 1) & 0xFF`, N and Z (43_inc_dec_shift.md R191). -/
def incFn (v : Byte) (f : Flags) : Byte × Flags := (v + 1, setNZ (v + 1) f)

/-- DEC: `r = (v - 1) & 0xFF`, N and Z (43_inc_dec_shift.md R192). -/
def decFn (v : Byte) (f : Flags) : Byte × Flags := (v - 1, setNZ (v - 1) f)

/-- ASL: `C <- v[7]; r = (v << 1) & 0xFF` (43_inc_dec_shift.md R197). -/
def aslFn (v : Byte) (f : Flags) : Byte × Flags :=
  let r := v <<< 1
  (r, setNZ r { f with c := v.getLsbD 7 })

/-- LSR: `C <- v[0]; r = v >> 1` (43_inc_dec_shift.md R198). -/
def lsrFn (v : Byte) (f : Flags) : Byte × Flags :=
  let r := v >>> 1
  (r, setNZ r { f with c := v.getLsbD 0 })

/-- ROL: `C <- v[7]; r = ((v << 1) | c_in) & 0xFF` (43_inc_dec_shift.md R199). -/
def rolFn (v : Byte) (f : Flags) : Byte × Flags :=
  let r := (v <<< 1) ||| bitAt f.c 0
  (r, setNZ r { f with c := v.getLsbD 7 })

/-- ROR: `C <- v[0]; r = (v >> 1) | (c_in << 7)` (43_inc_dec_shift.md R200). -/
def rorFn (v : Byte) (f : Flags) : Byte × Flags :=
  let r := (v >>> 1) ||| bitAt f.c 7
  (r, setNZ r { f with c := v.getLsbD 0 })

end Sys2Proof.Machine
end

