-- ==== Sys2Proof/Decode.lean ====
section
/-! DEFINITION. Decoding and encoding (spec/30_encoding.md R100 to R109): the opcode byte alone selects operation and mode; the operand
bytes are assembled little-endian (R66, R103). `decode` is total on byte lists and rejects by name; `encode` is written from the same
table. -/

namespace Sys2Proof

/-- `lo8(v) = v[7:0]` (00_scope.md R13). -/
def lo8 (v : Addr) : Byte := v.extractLsb' 0 8

/-- `hi8(v) = v[15:8]` (00_scope.md R13). -/
def hi8 (v : Addr) : Byte := v.extractLsb' 8 8

/-- The concatenation `hi, lo` of two bytes, `hi` in the high bits (00_scope.md R13). -/
def word16 (hi lo : Byte) : Addr := hi ++ lo

/-- What an opcode byte selects (30_encoding.md R101): a whole instruction (format F1), an instruction waiting for its operand
byte `b1` (F2), or one waiting for the 16-bit operand `b2, b1` (F3). -/
inductive Form where
  | f1 (i : Instr)
  | f2 (mk : Byte → Instr)
  | f3 (mk : Addr → Instr)

/-- The length in bytes of each format (30_encoding.md R101). -/
def Form.length : Form → Nat
  | .f1 _ => 1
  | .f2 _ => 2
  | .f3 _ => 3

/-- The decode table, keyed by the whole opcode byte (30_encoding.md R104); `none` is an undefined opcode (R108). -/
def opcodeForm (op : Byte) : Option Form :=
  match op.toNat with
  | 0x00 => some (.f1 .brk)
  | 0x01 => some (.f2 .oraIzx)
  | 0x05 => some (.f2 .oraZp)
  | 0x06 => some (.f2 .aslZp)
  | 0x08 => some (.f1 .php)
  | 0x09 => some (.f2 .oraImm)
  | 0x0A => some (.f1 .aslAcc)
  | 0x0D => some (.f3 .oraAbs)
  | 0x0E => some (.f3 .aslAbs)
  | 0x10 => some (.f2 .bpl)
  | 0x11 => some (.f2 .oraIzy)
  | 0x15 => some (.f2 .oraZpx)
  | 0x16 => some (.f2 .aslZpx)
  | 0x18 => some (.f1 .clc)
  | 0x19 => some (.f3 .oraAby)
  | 0x1D => some (.f3 .oraAbx)
  | 0x1E => some (.f3 .aslAbx)
  | 0x20 => some (.f3 .jsr)
  | 0x21 => some (.f2 .andIzx)
  | 0x24 => some (.f2 .bitZp)
  | 0x25 => some (.f2 .andZp)
  | 0x26 => some (.f2 .rolZp)
  | 0x28 => some (.f1 .plp)
  | 0x29 => some (.f2 .andImm)
  | 0x2A => some (.f1 .rolAcc)
  | 0x2C => some (.f3 .bitAbs)
  | 0x2D => some (.f3 .andAbs)
  | 0x2E => some (.f3 .rolAbs)
  | 0x30 => some (.f2 .bmi)
  | 0x31 => some (.f2 .andIzy)
  | 0x35 => some (.f2 .andZpx)
  | 0x36 => some (.f2 .rolZpx)
  | 0x38 => some (.f1 .sec)
  | 0x39 => some (.f3 .andAby)
  | 0x3D => some (.f3 .andAbx)
  | 0x3E => some (.f3 .rolAbx)
  | 0x40 => some (.f1 .rti)
  | 0x41 => some (.f2 .eorIzx)
  | 0x45 => some (.f2 .eorZp)
  | 0x46 => some (.f2 .lsrZp)
  | 0x48 => some (.f1 .pha)
  | 0x49 => some (.f2 .eorImm)
  | 0x4A => some (.f1 .lsrAcc)
  | 0x4C => some (.f3 .jmpAbs)
  | 0x4D => some (.f3 .eorAbs)
  | 0x4E => some (.f3 .lsrAbs)
  | 0x50 => some (.f2 .bvc)
  | 0x51 => some (.f2 .eorIzy)
  | 0x55 => some (.f2 .eorZpx)
  | 0x56 => some (.f2 .lsrZpx)
  | 0x58 => some (.f1 .cli)
  | 0x59 => some (.f3 .eorAby)
  | 0x5D => some (.f3 .eorAbx)
  | 0x5E => some (.f3 .lsrAbx)
  | 0x60 => some (.f1 .rts)
  | 0x61 => some (.f2 .adcIzx)
  | 0x65 => some (.f2 .adcZp)
  | 0x66 => some (.f2 .rorZp)
  | 0x68 => some (.f1 .pla)
  | 0x69 => some (.f2 .adcImm)
  | 0x6A => some (.f1 .rorAcc)
  | 0x6C => some (.f3 .jmpInd)
  | 0x6D => some (.f3 .adcAbs)
  | 0x6E => some (.f3 .rorAbs)
  | 0x70 => some (.f2 .bvs)
  | 0x71 => some (.f2 .adcIzy)
  | 0x75 => some (.f2 .adcZpx)
  | 0x76 => some (.f2 .rorZpx)
  | 0x78 => some (.f1 .sei)
  | 0x79 => some (.f3 .adcAby)
  | 0x7D => some (.f3 .adcAbx)
  | 0x7E => some (.f3 .rorAbx)
  | 0x81 => some (.f2 .staIzx)
  | 0x84 => some (.f2 .styZp)
  | 0x85 => some (.f2 .staZp)
  | 0x86 => some (.f2 .stxZp)
  | 0x88 => some (.f1 .dey)
  | 0x8A => some (.f1 .txa)
  | 0x8C => some (.f3 .styAbs)
  | 0x8D => some (.f3 .staAbs)
  | 0x8E => some (.f3 .stxAbs)
  | 0x90 => some (.f2 .bcc)
  | 0x91 => some (.f2 .staIzy)
  | 0x94 => some (.f2 .styZpx)
  | 0x95 => some (.f2 .staZpx)
  | 0x96 => some (.f2 .stxZpy)
  | 0x98 => some (.f1 .tya)
  | 0x99 => some (.f3 .staAby)
  | 0x9A => some (.f1 .txs)
  | 0x9D => some (.f3 .staAbx)
  | 0xA0 => some (.f2 .ldyImm)
  | 0xA1 => some (.f2 .ldaIzx)
  | 0xA2 => some (.f2 .ldxImm)
  | 0xA4 => some (.f2 .ldyZp)
  | 0xA5 => some (.f2 .ldaZp)
  | 0xA6 => some (.f2 .ldxZp)
  | 0xA8 => some (.f1 .tay)
  | 0xA9 => some (.f2 .ldaImm)
  | 0xAA => some (.f1 .tax)
  | 0xAC => some (.f3 .ldyAbs)
  | 0xAD => some (.f3 .ldaAbs)
  | 0xAE => some (.f3 .ldxAbs)
  | 0xB0 => some (.f2 .bcs)
  | 0xB1 => some (.f2 .ldaIzy)
  | 0xB4 => some (.f2 .ldyZpx)
  | 0xB5 => some (.f2 .ldaZpx)
  | 0xB6 => some (.f2 .ldxZpy)
  | 0xB8 => some (.f1 .clv)
  | 0xB9 => some (.f3 .ldaAby)
  | 0xBA => some (.f1 .tsx)
  | 0xBC => some (.f3 .ldyAbx)
  | 0xBD => some (.f3 .ldaAbx)
  | 0xBE => some (.f3 .ldxAby)
  | 0xC0 => some (.f2 .cpyImm)
  | 0xC1 => some (.f2 .cmpIzx)
  | 0xC4 => some (.f2 .cpyZp)
  | 0xC5 => some (.f2 .cmpZp)
  | 0xC6 => some (.f2 .decZp)
  | 0xC8 => some (.f1 .iny)
  | 0xC9 => some (.f2 .cmpImm)
  | 0xCA => some (.f1 .dex)
  | 0xCC => some (.f3 .cpyAbs)
  | 0xCD => some (.f3 .cmpAbs)
  | 0xCE => some (.f3 .decAbs)
  | 0xD0 => some (.f2 .bne)
  | 0xD1 => some (.f2 .cmpIzy)
  | 0xD5 => some (.f2 .cmpZpx)
  | 0xD6 => some (.f2 .decZpx)
  | 0xD8 => some (.f1 .cld)
  | 0xD9 => some (.f3 .cmpAby)
  | 0xDD => some (.f3 .cmpAbx)
  | 0xDE => some (.f3 .decAbx)
  | 0xE0 => some (.f2 .cpxImm)
  | 0xE1 => some (.f2 .sbcIzx)
  | 0xE4 => some (.f2 .cpxZp)
  | 0xE5 => some (.f2 .sbcZp)
  | 0xE6 => some (.f2 .incZp)
  | 0xE8 => some (.f1 .inx)
  | 0xE9 => some (.f2 .sbcImm)
  | 0xEA => some (.f1 .nop)
  | 0xEC => some (.f3 .cpxAbs)
  | 0xED => some (.f3 .sbcAbs)
  | 0xEE => some (.f3 .incAbs)
  | 0xF0 => some (.f2 .beq)
  | 0xF1 => some (.f2 .sbcIzy)
  | 0xF5 => some (.f2 .sbcZpx)
  | 0xF6 => some (.f2 .incZpx)
  | 0xF8 => some (.f1 .sed)
  | 0xF9 => some (.f3 .sbcAby)
  | 0xFD => some (.f3 .sbcAbx)
  | 0xFE => some (.f3 .incAbx)
  | _ => none

/-- How many bytes the instruction beginning with this opcode byte has (30_encoding.md R101); 1 for an undefined opcode, of which
nothing but the opcode byte is looked at (R108). -/
def opcodeLength (op : Byte) : Nat :=
  match opcodeForm op with
  | some f => f.length
  | none => 1

/-- Why a byte list is no instruction. -/
inductive Reject where
  /-- no byte at all -/
  | noBytes
  /-- the opcode byte is one of the 105 undefined ones (30_encoding.md R108) -/
  | undefinedOpcode (op : Byte)
  /-- the opcode is defined and its operand bytes are missing from the list -/
  | truncated (op : Byte)
deriving DecidableEq, Repr

/-- The answer of the decoder: an instruction and the bytes after it, or the reason there is none. -/
inductive Decoded where
  | ok (i : Instr) (rest : List Byte)
  | rejected (why : Reject)
deriving DecidableEq, Repr

/-- Decode the first instruction of a byte list, first byte first (30_encoding.md R100, R103, R104, R107). -/
def decode : List Byte → Decoded
  | [] => .rejected .noBytes
  | op :: operands =>
    match opcodeForm op with
    | none => .rejected (.undefinedOpcode op)
    | some (.f1 i) => .ok i operands
    | some (.f2 mk) =>
      match operands with
      | b1 :: rest => .ok (mk b1) rest
      | [] => .rejected (.truncated op)
    | some (.f3 mk) =>
      match operands with
      | b1 :: b2 :: rest => .ok (mk (word16 b2 b1)) rest
      | _ => .rejected (.truncated op)

/-- The bytes of a 3-byte instruction: opcode, operand low byte, operand high byte (30_encoding.md R101). -/
def encodeF3 (op : Byte) (addr : Addr) : List Byte := [op, lo8 addr, hi8 addr]

/-- The bytes of an instruction, in address order (30_encoding.md R101, R105). -/
def encode : Instr → List Byte
  | .ldaImm data => [0xA9, data]
  | .ldaZp zp => [0xA5, zp]
  | .ldaZpx zp => [0xB5, zp]
  | .ldaAbs addr => encodeF3 0xAD addr
  | .ldaAbx addr => encodeF3 0xBD addr
  | .ldaAby addr => encodeF3 0xB9 addr
  | .ldaIzx zp => [0xA1, zp]
  | .ldaIzy zp => [0xB1, zp]
  | .ldxImm data => [0xA2, data]
  | .ldxZp zp => [0xA6, zp]
  | .ldxZpy zp => [0xB6, zp]
  | .ldxAbs addr => encodeF3 0xAE addr
  | .ldxAby addr => encodeF3 0xBE addr
  | .ldyImm data => [0xA0, data]
  | .ldyZp zp => [0xA4, zp]
  | .ldyZpx zp => [0xB4, zp]
  | .ldyAbs addr => encodeF3 0xAC addr
  | .ldyAbx addr => encodeF3 0xBC addr
  | .staZp zp => [0x85, zp]
  | .staZpx zp => [0x95, zp]
  | .staAbs addr => encodeF3 0x8D addr
  | .staAbx addr => encodeF3 0x9D addr
  | .staAby addr => encodeF3 0x99 addr
  | .staIzx zp => [0x81, zp]
  | .staIzy zp => [0x91, zp]
  | .stxZp zp => [0x86, zp]
  | .stxZpy zp => [0x96, zp]
  | .stxAbs addr => encodeF3 0x8E addr
  | .styZp zp => [0x84, zp]
  | .styZpx zp => [0x94, zp]
  | .styAbs addr => encodeF3 0x8C addr
  | .tax => [0xAA]
  | .tay => [0xA8]
  | .txa => [0x8A]
  | .tya => [0x98]
  | .tsx => [0xBA]
  | .txs => [0x9A]
  | .pha => [0x48]
  | .php => [0x08]
  | .pla => [0x68]
  | .plp => [0x28]
  | .andImm data => [0x29, data]
  | .andZp zp => [0x25, zp]
  | .andZpx zp => [0x35, zp]
  | .andAbs addr => encodeF3 0x2D addr
  | .andAbx addr => encodeF3 0x3D addr
  | .andAby addr => encodeF3 0x39 addr
  | .andIzx zp => [0x21, zp]
  | .andIzy zp => [0x31, zp]
  | .oraImm data => [0x09, data]
  | .oraZp zp => [0x05, zp]
  | .oraZpx zp => [0x15, zp]
  | .oraAbs addr => encodeF3 0x0D addr
  | .oraAbx addr => encodeF3 0x1D addr
  | .oraAby addr => encodeF3 0x19 addr
  | .oraIzx zp => [0x01, zp]
  | .oraIzy zp => [0x11, zp]
  | .eorImm data => [0x49, data]
  | .eorZp zp => [0x45, zp]
  | .eorZpx zp => [0x55, zp]
  | .eorAbs addr => encodeF3 0x4D addr
  | .eorAbx addr => encodeF3 0x5D addr
  | .eorAby addr => encodeF3 0x59 addr
  | .eorIzx zp => [0x41, zp]
  | .eorIzy zp => [0x51, zp]
  | .bitZp zp => [0x24, zp]
  | .bitAbs addr => encodeF3 0x2C addr
  | .adcImm data => [0x69, data]
  | .adcZp zp => [0x65, zp]
  | .adcZpx zp => [0x75, zp]
  | .adcAbs addr => encodeF3 0x6D addr
  | .adcAbx addr => encodeF3 0x7D addr
  | .adcAby addr => encodeF3 0x79 addr
  | .adcIzx zp => [0x61, zp]
  | .adcIzy zp => [0x71, zp]
  | .sbcImm data => [0xE9, data]
  | .sbcZp zp => [0xE5, zp]
  | .sbcZpx zp => [0xF5, zp]
  | .sbcAbs addr => encodeF3 0xED addr
  | .sbcAbx addr => encodeF3 0xFD addr
  | .sbcAby addr => encodeF3 0xF9 addr
  | .sbcIzx zp => [0xE1, zp]
  | .sbcIzy zp => [0xF1, zp]
  | .cmpImm data => [0xC9, data]
  | .cmpZp zp => [0xC5, zp]
  | .cmpZpx zp => [0xD5, zp]
  | .cmpAbs addr => encodeF3 0xCD addr
  | .cmpAbx addr => encodeF3 0xDD addr
  | .cmpAby addr => encodeF3 0xD9 addr
  | .cmpIzx zp => [0xC1, zp]
  | .cmpIzy zp => [0xD1, zp]
  | .cpxImm data => [0xE0, data]
  | .cpxZp zp => [0xE4, zp]
  | .cpxAbs addr => encodeF3 0xEC addr
  | .cpyImm data => [0xC0, data]
  | .cpyZp zp => [0xC4, zp]
  | .cpyAbs addr => encodeF3 0xCC addr
  | .incZp zp => [0xE6, zp]
  | .incZpx zp => [0xF6, zp]
  | .incAbs addr => encodeF3 0xEE addr
  | .incAbx addr => encodeF3 0xFE addr
  | .decZp zp => [0xC6, zp]
  | .decZpx zp => [0xD6, zp]
  | .decAbs addr => encodeF3 0xCE addr
  | .decAbx addr => encodeF3 0xDE addr
  | .inx => [0xE8]
  | .iny => [0xC8]
  | .dex => [0xCA]
  | .dey => [0x88]
  | .aslAcc => [0x0A]
  | .aslZp zp => [0x06, zp]
  | .aslZpx zp => [0x16, zp]
  | .aslAbs addr => encodeF3 0x0E addr
  | .aslAbx addr => encodeF3 0x1E addr
  | .lsrAcc => [0x4A]
  | .lsrZp zp => [0x46, zp]
  | .lsrZpx zp => [0x56, zp]
  | .lsrAbs addr => encodeF3 0x4E addr
  | .lsrAbx addr => encodeF3 0x5E addr
  | .rolAcc => [0x2A]
  | .rolZp zp => [0x26, zp]
  | .rolZpx zp => [0x36, zp]
  | .rolAbs addr => encodeF3 0x2E addr
  | .rolAbx addr => encodeF3 0x3E addr
  | .rorAcc => [0x6A]
  | .rorZp zp => [0x66, zp]
  | .rorZpx zp => [0x76, zp]
  | .rorAbs addr => encodeF3 0x6E addr
  | .rorAbx addr => encodeF3 0x7E addr
  | .jmpAbs addr => encodeF3 0x4C addr
  | .jmpInd addr => encodeF3 0x6C addr
  | .jsr addr => encodeF3 0x20 addr
  | .rts => [0x60]
  | .bpl disp => [0x10, disp]
  | .bmi disp => [0x30, disp]
  | .bvc disp => [0x50, disp]
  | .bvs disp => [0x70, disp]
  | .bcc disp => [0x90, disp]
  | .bcs disp => [0xB0, disp]
  | .bne disp => [0xD0, disp]
  | .beq disp => [0xF0, disp]
  | .clc => [0x18]
  | .sec => [0x38]
  | .cli => [0x58]
  | .sei => [0x78]
  | .clv => [0xB8]
  | .cld => [0xD8]
  | .sed => [0xF8]
  | .nop => [0xEA]
  | .brk => [0x00]
  | .rti => [0x40]

/-- The opcode byte of an instruction (30_encoding.md R105). -/
def opcodeOf (i : Instr) : Byte := (encode i).headD 0

/-- The three bytes of an instruction given as one number, bit 0 the least significant bit of the first byte; only the low `nbits`
bits are kept and the bits above them are 0. -/
def tableBytes (nbits w : Nat) : List Byte :=
  let bits := w % 2 ^ nbits
  [BitVec.ofNat 8 bits, BitVec.ofNat 8 (bits / 0x100), BitVec.ofNat 8 (bits / 0x10000)]

/-- The instruction `decode` reads from the bits of a row of the opcode table, numbered as the table numbers them. -/
def decodeTableWord (nbits w : Nat) : Option Instr :=
  match decode (tableBytes nbits w) with
  | .ok i _ => some i
  | .rejected _ => none

end Sys2Proof
end

