-- ==== Sys2Proof/Machine/Tracker.lean ====
section
/-! DEFINITION. The chip register tracker (spec/47_chip_tracker.md): window, write hook, resolution, snapshot, flush, replay. -/

namespace Sys2Proof.Machine

/-- The address is in the chip register window (47_chip_tracker.md R261). -/
def inWindow (addr : Addr) : Bool :=
  decide (Config.chipBase ≤ addr) && decide (addr ≤ Config.chipLast)

/-- The offset of an address in the window (47_chip_tracker.md R261). -/
def windowOffset (addr : Addr) : Nat := (addr - Config.chipBase).toNat

/-- Write register `r` (0 to 6) of a voice and stamp the frame (47_chip_tracker.md R262). -/
def Voice.write (r : Nat) (value : Byte) (frame : Nat) (vc : Voice) : Voice :=
  match r with
  | 0 => { vc with freqLo := value, lastWrite := some frame }
  | 1 => { vc with freqHi := value, lastWrite := some frame }
  | 2 => { vc with pwLo := value, lastWrite := some frame }
  | 3 => { vc with pwHi := value, lastWrite := some frame }
  | 4 => { vc with ctrl := value, lastWrite := some frame }
  | 5 => { vc with ad := value, lastWrite := some frame }
  | _ => { vc with sr := value, lastWrite := some frame }

/-- Change voice number `v` (1, 2 or 3). -/
def Tracker.onVoice (v : Nat) (f : Voice → Voice) (t : Tracker) : Tracker :=
  match v with
  | 1 => { t with voice1 := f t.voice1 }
  | 2 => { t with voice2 := f t.voice2 }
  | _ => { t with voice3 := f t.voice3 }

/-- `filt[k] <- value` (47_chip_tracker.md R262). -/
def Tracker.setFilt (k : Nat) (value : Byte) (t : Tracker) : Tracker :=
  match k with
  | 0 => { t with filt0 := value }
  | 1 => { t with filt1 := value }
  | 2 => { t with filt2 := value }
  | _ => { t with filt3 := value }

/-- The field update of `on_write` for an offset 0x00 to 0x18 in the window: three voices of seven registers, then the four shared
bytes (47_chip_tracker.md R262, R264). -/
def Tracker.writeReg (off : Nat) (value : Byte) (frame : Nat) (t : Tracker) : Tracker :=
  if off ≤ 0x14 then t.onVoice (off / 7 + 1) (Voice.write (off % 7) value frame)
  else t.setFilt (off - 0x15) value

/-- The field update of one event; nothing for an address outside the window (47_chip_tracker.md R262, R274). -/
def Tracker.apply (t : Tracker) (e : Event) : Tracker :=
  if inWindow e.addr then t.writeReg (windowOffset e.addr) e.value e.frame else t

/-- `Replay(T, events)` (47_chip_tracker.md R274). -/
def replay (t : Tracker) (events : List Event) : Tracker := events.foldl Tracker.apply t

/-- `on_write(address, value, frame_index)`, the write hook (47_chip_tracker.md R262, R263). -/
def State.onWrite (addr : Addr) (value : Byte) (frame : Nat) (s : State) : State :=
  if inWindow addr then
    { s with
      pending := s.pending ++ [⟨frame, addr, value⟩]
      tracker := s.tracker.writeReg (windowOffset addr) value frame }
  else s

/-- `Resolve`, the consumer's view of a voice (47_chip_tracker.md R270, bit layouts R266, R267). -/
def resolve (vc : Voice) : VoiceView :=
  { frequency := word16 vc.freqHi vc.freqLo
    pulseWidth := vc.pwHi.extractLsb' 0 4 ++ vc.pwLo
    control := vc.ctrl
    gate := vc.ctrl.getLsbD 0
    attack := vc.ad.extractLsb' 4 4
    decay := vc.ad.extractLsb' 0 4
    sustain := vc.sr.extractLsb' 4 4
    release := vc.sr.extractLsb' 0 4
    lastWrite := vc.lastWrite }

/-- `Snapshot()` (47_chip_tracker.md R271). -/
def snapshot (t : Tracker) : Snapshot :=
  { voice1 := resolve t.voice1
    voice2 := resolve t.voice2
    voice3 := resolve t.voice3
    shared := t.filt3
    filter := [t.filt0, t.filt1, t.filt2, t.filt3] }

/-- The frame that `Flush(k)` returns (47_chip_tracker.md R272). -/
def flushedFrame (k : Nat) (s : State) : Frame :=
  { frameIndex := k, events := s.pending, snapshot := snapshot s.tracker }

/-- `Flush(k)`, its frame appended to the Trace as the Frame Driver does; only `pending` is emptied, voices and `filt` stay
(47_chip_tracker.md R272). -/
def flush (k : Nat) (s : State) : State :=
  { s with trace := s.trace ++ [flushedFrame k s], pending := [] }

end Sys2Proof.Machine
end

