-- ==== Sys2Proof/Machine/Ops.lean ====
section
/-! DEFINITION. The named operations over memory and registers: byte reads and writes, the write hook's place in them, register
updates, `Push` and `Pull`, taking the BRK trap and returning from it, the end of a step, and the fetch. -/

namespace Sys2Proof.Machine

/-- The byte at an address; an unlisted address reads as 0x00 (10_state.md R55, 20_memory.md R64). -/
def Memory.read : Memory → Nat → Byte
  | [], _ => 0x00
  | (k, v) :: rest, a => if a = k then v else Memory.read rest a

/-- Drop whatever is listed at an address. -/
def Memory.erase (m : Memory) (a : Nat) : Memory := m.filter (fun cell => cell.1 != a)

/-- List a byte at an address that is not listed, keeping the addresses rising. -/
def Memory.insert : Memory → Nat → Byte → Memory
  | [], a, v => [(a, v)]
  | (k, w) :: rest, a, v => if a < k then (a, v) :: (k, w) :: rest else (k, w) :: Memory.insert rest a v

/-- `mem[addr] <- v`, keeping the canonical form: 0x00 is not listed (20_memory.md R65). -/
def Memory.write (m : Memory) (a : Nat) (v : Byte) : Memory :=
  if v = 0x00 then m.erase a else (m.erase a).insert a v

/-- The canonical form: addresses strictly rising and below 65536, no byte 0x00 listed. -/
def Memory.wf : Memory → Bool
  | [] => true
  | (k, v) :: rest =>
    decide (k < 0x10000) && v != 0x00 && rest.all (fun cell => decide (k < cell.1)) && Memory.wf rest

/-- `A <- v`. -/
def State.setA (v : Byte) (s : State) : State := { s with a := v }

/-- `X <- v`. -/
def State.setX (v : Byte) (s : State) : State := { s with x := v }

/-- `Y <- v`. -/
def State.setY (v : Byte) (s : State) : State := { s with y := v }

/-- `SP <- v`. -/
def State.setSp (v : Byte) (s : State) : State := { s with sp := v }

/-- `PC <- v`. -/
def State.setPc (v : Addr) (s : State) : State := { s with pc := v }

/-- Replace the flag set. -/
def State.setFlags (f : Flags) (s : State) : State := { s with flags := f }

/-- Replace the MemoryImage; the hook is not called. -/
def State.setMem (m : Memory) (s : State) : State := { s with mem := m }

/-- Add a step's cost to the running sum (70_reset_and_hazards.md R346; log 4). -/
def State.addCycles (n : Nat) (s : State) : State := { s with used := s.used + n }

/-- `MemRead(addr, 1)` (20_memory.md R64). -/
def State.memRead (s : State) (addr : Addr) : Byte := s.mem.read addr.toNat

/-- `MemRead(addr, 2)`, little-endian, the address wrapping at 16 bits (20_memory.md R66). -/
def State.memRead16 (s : State) (addr : Addr) : Addr := word16 (s.memRead (addr + 1)) (s.memRead addr)

/-- A write of the host's: the byte is stored and the hook is not called (20_memory.md R73). -/
def State.hostWrite (addr : Addr) (v : Byte) (s : State) : State := s.setMem (s.mem.write addr.toNat v)

/-- `MemWrite(addr, 1, v)`: store the byte, then call the hook with the current frame (20_memory.md R65). -/
def State.memWrite (addr : Addr) (v : Byte) (s : State) : State :=
  (s.hostWrite addr v).onWrite addr v s.curFrame

/-- The address `0x0100 | SP` of the next free stack slot (10_state.md R24). -/
def stackAddr (sp : Byte) : Addr := word16 Config.stackPage sp

/-- `Push(v)` (41_stack.md R160). -/
def State.push (v : Byte) (s : State) : State := (s.memWrite (stackAddr s.sp) v).setSp (s.sp - 1)

/-- `Pull()`: the byte and the state after it (41_stack.md R161). -/
def State.pull (s : State) : Byte × State := (s.memRead (stackAddr (s.sp + 1)), s.setSp (s.sp + 1))

/-- Push a 16-bit value, high byte first (44_control_flow.md R212, 46_break_return.md R245). -/
def State.pushWord (v : Addr) (s : State) : State := (s.push (hi8 v)).push (lo8 v)

/-- Pull a 16-bit value, low byte first (44_control_flow.md R213, 46_break_return.md R246). -/
def State.pullWord (s : State) : Addr × State :=
  let (lo, s1) := s.pull
  let (hi, s2) := s1.pull
  (word16 hi lo, s2)

/-- Taking the trap, the one exception the block delivers to a program: push `pc + 2` and the flags with B = 1, set I, load `PC` from the
vector, read after the pushes (46_break_return.md R245, 60_exceptions.md R310, R311). -/
def State.takeBreak (s : State) : State :=
  let s1 := (s.pushWord (s.pc + 2)).push (packP true s.flags)
  let s2 := s1.setFlags { s1.flags with i := true }
  s2.setPc (s2.memRead16 Config.brkVector)

/-- Returning from the trap: the six flags, then `PC`, from the stack (46_break_return.md R246, 60_exceptions.md R312). -/
def State.returnFromBreak (s : State) : State :=
  let (p, s1) := s.pull
  let (ret, s2) := (s1.setFlags (unpackP p)).pullWord
  s2.setPc ret

/-- End a step that went on in sequence: `PC <- npc`, and its cost (10_state.md R26, 70_reset_and_hazards.md R345). -/
def finish (length cycles : Nat) (s : State) : Result :=
  .next ((s.setPc (s.pc + BitVec.ofNat 16 length)).addCycles cycles)

/-- End a step that has written `PC` itself, with its cost. -/
def jumped (cycles : Nat) (s : State) : Result := .next (s.addCycles cycles)

/-- `raise UnsupportedOpcode(pc, opcode)`, with `pc = PC` and `opcode = MemRead(PC, 1)` (60_exceptions.md R301; log 9). -/
def unsupported (s : State) : Result := .fault (.unsupportedOpcode s.pc (s.memRead s.pc))

/-- The instruction's bytes at `PC`, as many as its opcode asks for, addresses wrapping at 16 bits (30_encoding.md R101,
20_memory.md R74). -/
def fetchBytes (s : State) : List Byte :=
  match opcodeLength (s.memRead s.pc) with
  | 1 => [s.memRead s.pc]
  | 2 => [s.memRead s.pc, s.memRead (s.pc + 1)]
  | _ => [s.memRead s.pc, s.memRead (s.pc + 1), s.memRead (s.pc + 2)]

/-- Fetch and decode the instruction at `PC`; `none` is an undefined opcode (30_encoding.md R107, R108). -/
def fetch (s : State) : Option Instr :=
  match decode (fetchBytes s) with
  | .ok i _ => some i
  | .rejected _ => none

/-- Store a byte list from an address upward, the address wrapping at 16 bits, without calling the hook (70_reset_and_hazards.md R343). -/
def storeBytes : List Byte → Addr → State → State
  | [], _, s => s
  | b :: rest, a, s => storeBytes rest (a + 1) (s.hostWrite a b)

end Sys2Proof.Machine
end

