-- ==== Sys2Proof/Machine/Operands.lean ====
section
/-! DEFINITION. The addressing modes (spec/30_encoding.md R110 to R122): effective addresses and page-cross bits. -/

namespace Sys2Proof.Machine

/-- `zext_16(v)` (00_scope.md R13). -/
def zext16 (v : Byte) : Addr := v.zeroExtend 16

/-- `sext_16(v)` (00_scope.md R13). -/
def sext16 (v : Byte) : Addr := v.signExtend 16

/-- The page-cross bit: the two addresses have different high bytes (30_encoding.md R117, R118, R120, R122). -/
def crossed (base ea : Addr) : Bool := hi8 ea != hi8 base

/-- Zero page: `ea = zext_16(b1)` (30_encoding.md R113). -/
def eaZp (zp : Byte) : Addr := zext16 zp

/-- Zero page,X: wraps inside page 0 (30_encoding.md R114). -/
def eaZpx (zp : Byte) (s : State) : Addr := zext16 (zp + s.x)

/-- Zero page,Y: wraps inside page 0 (30_encoding.md R115). -/
def eaZpy (zp : Byte) (s : State) : Addr := zext16 (zp + s.y)

/-- Absolute,X (30_encoding.md R117). -/
def eaAbx (addr : Addr) (s : State) : Addr := addr + zext16 s.x

/-- The page-cross bit of absolute,X (30_encoding.md R117). -/
def pxAbx (addr : Addr) (s : State) : Bool := crossed addr (eaAbx addr s)

/-- Absolute,Y (30_encoding.md R118). -/
def eaAby (addr : Addr) (s : State) : Addr := addr + zext16 s.y

/-- The page-cross bit of absolute,Y (30_encoding.md R118). -/
def pxAby (addr : Addr) (s : State) : Bool := crossed addr (eaAby addr s)

/-- The pointer held at a zero-page address, its second byte wrapping inside page 0 (30_encoding.md R119, R120). -/
def zpPointer (p : Byte) (s : State) : Addr := word16 (s.memRead (zext16 (p + 1))) (s.memRead (zext16 p))

/-- (Zero page,X) (30_encoding.md R119). -/
def eaIzx (zp : Byte) (s : State) : Addr := zpPointer (zp + s.x) s

/-- (Zero page),Y (30_encoding.md R120). -/
def eaIzy (zp : Byte) (s : State) : Addr := zpPointer zp s + zext16 s.y

/-- The page-cross bit of (zero page),Y (30_encoding.md R120). -/
def pxIzy (zp : Byte) (s : State) : Bool := crossed (zpPointer zp s) (eaIzy zp s)

/-- (Indirect): the pointer's second byte comes from the same page as its first (30_encoding.md R121). -/
def eaInd (p : Addr) (s : State) : Addr := word16 (s.memRead (word16 (hi8 p) (lo8 p + 1))) (s.memRead p)

/-- The address after a branch (30_encoding.md R122). -/
def branchNext (s : State) : Addr := s.pc + 2

/-- Relative: the branch target (30_encoding.md R122). -/
def branchTarget (disp : Byte) (s : State) : Addr := branchNext s + sext16 disp

end Sys2Proof.Machine
end

