-- ==== Sys2Proof/Machine/Arith.lean ====
section
/-! DEFINITION. ADC and SBC (spec/42_logic_arith.md R176 to R178), for each decimal policy (spec/93_implementation_defined.md U3); the machine runs with the decided one, `Config.decimalPolicy`. -/

namespace Sys2Proof.Machine

/-- `A` and the four arithmetic flags from the result of an addition or subtraction (42_logic_arith.md R176, R177). -/
def setResult (r : Alu) (s : State) : State := (s.setA r.value).setFlags (setAlu r s.flags)

/-- ADC with operand `m`: binary when `D = 0`, else by policy; under `fault` it raises `UnsupportedOpcode` before any state changes
(42_logic_arith.md R176, R178). Reading has no side effect, so an operand computed and not used is an operand not read. -/
def adc (policy : DecimalPolicy) (length cycles : Nat) (m : Byte) (s : State) : Result :=
  if s.flags.d then
    match policy with
    | .fault => unsupported s
    | .binary => finish length cycles (setResult (adcBinary s.a m s.flags.c) s)
    | .nmosBcd => finish length cycles (setResult (adcNmosBcd s.a m s.flags.c) s)
  else finish length cycles (setResult (adcBinary s.a m s.flags.c) s)

/-- SBC with operand `m`: binary when `D = 0`, else by policy; under `fault` it raises `UnsupportedOpcode` before any state changes
(42_logic_arith.md R177, R178). -/
def sbc (policy : DecimalPolicy) (length cycles : Nat) (m : Byte) (s : State) : Result :=
  if s.flags.d then
    match policy with
    | .fault => unsupported s
    | .binary => finish length cycles (setResult (sbcBinary s.a m s.flags.c) s)
    | .nmosBcd => finish length cycles (setResult (sbcNmosBcd s.a m s.flags.c) s)
  else finish length cycles (setResult (sbcBinary s.a m s.flags.c) s)

/-- ADC immediate, opcode 0x69 (42_logic_arith.md R176). -/
def execAdcImm (data : Byte) (s : State) : Result :=
  adc Config.decimalPolicy 2 2 data s

/-- ADC zero page, opcode 0x65 (42_logic_arith.md R176). -/
def execAdcZp (zp : Byte) (s : State) : Result :=
  adc Config.decimalPolicy 2 3 (s.memRead (eaZp zp)) s

/-- ADC zero page,X, opcode 0x75 (42_logic_arith.md R176). -/
def execAdcZpx (zp : Byte) (s : State) : Result :=
  adc Config.decimalPolicy 2 4 (s.memRead (eaZpx zp s)) s

/-- ADC absolute, opcode 0x6D (42_logic_arith.md R176). -/
def execAdcAbs (addr : Addr) (s : State) : Result :=
  adc Config.decimalPolicy 3 4 (s.memRead addr) s

/-- ADC absolute,X, opcode 0x7D (42_logic_arith.md R176). -/
def execAdcAbx (addr : Addr) (s : State) : Result :=
  adc Config.decimalPolicy 3 (4 + (pxAbx addr s).toNat) (s.memRead (eaAbx addr s)) s

/-- ADC absolute,Y, opcode 0x79 (42_logic_arith.md R176). -/
def execAdcAby (addr : Addr) (s : State) : Result :=
  adc Config.decimalPolicy 3 (4 + (pxAby addr s).toNat) (s.memRead (eaAby addr s)) s

/-- ADC (zero page,X), opcode 0x61 (42_logic_arith.md R176). -/
def execAdcIzx (zp : Byte) (s : State) : Result :=
  adc Config.decimalPolicy 2 6 (s.memRead (eaIzx zp s)) s

/-- ADC (zero page),Y, opcode 0x71 (42_logic_arith.md R176). -/
def execAdcIzy (zp : Byte) (s : State) : Result :=
  adc Config.decimalPolicy 2 (5 + (pxIzy zp s).toNat) (s.memRead (eaIzy zp s)) s

/-- SBC immediate, opcode 0xE9 (42_logic_arith.md R177). -/
def execSbcImm (data : Byte) (s : State) : Result :=
  sbc Config.decimalPolicy 2 2 data s

/-- SBC zero page, opcode 0xE5 (42_logic_arith.md R177). -/
def execSbcZp (zp : Byte) (s : State) : Result :=
  sbc Config.decimalPolicy 2 3 (s.memRead (eaZp zp)) s

/-- SBC zero page,X, opcode 0xF5 (42_logic_arith.md R177). -/
def execSbcZpx (zp : Byte) (s : State) : Result :=
  sbc Config.decimalPolicy 2 4 (s.memRead (eaZpx zp s)) s

/-- SBC absolute, opcode 0xED (42_logic_arith.md R177). -/
def execSbcAbs (addr : Addr) (s : State) : Result :=
  sbc Config.decimalPolicy 3 4 (s.memRead addr) s

/-- SBC absolute,X, opcode 0xFD (42_logic_arith.md R177). -/
def execSbcAbx (addr : Addr) (s : State) : Result :=
  sbc Config.decimalPolicy 3 (4 + (pxAbx addr s).toNat) (s.memRead (eaAbx addr s)) s

/-- SBC absolute,Y, opcode 0xF9 (42_logic_arith.md R177). -/
def execSbcAby (addr : Addr) (s : State) : Result :=
  sbc Config.decimalPolicy 3 (4 + (pxAby addr s).toNat) (s.memRead (eaAby addr s)) s

/-- SBC (zero page,X), opcode 0xE1 (42_logic_arith.md R177). -/
def execSbcIzx (zp : Byte) (s : State) : Result :=
  sbc Config.decimalPolicy 2 6 (s.memRead (eaIzx zp s)) s

/-- SBC (zero page),Y, opcode 0xF1 (42_logic_arith.md R177). -/
def execSbcIzy (zp : Byte) (s : State) : Result :=
  sbc Config.decimalPolicy 2 (5 + (pxIzy zp s).toNat) (s.memRead (eaIzy zp s)) s

end Sys2Proof.Machine
end

