-- ==== Sys2Proof/Machine/Branch.lean ====
section
/-! DEFINITION. The eight conditional branches (spec/44_control_flow.md R214 to R222). -/

namespace Sys2Proof.Machine

/-- Common to the branches: taken costs 3, or 4 to another page; not taken costs 2 (44_control_flow.md R214). -/
def branch (cond : Bool) (disp : Byte) (s : State) : Result :=
  if cond then jumped (3 + (crossed (branchNext s) (branchTarget disp s)).toNat) (s.setPc (branchTarget disp s))
  else finish 2 2 s

/-- BPL, opcode 0x10 (44_control_flow.md R215). -/
def execBpl (disp : Byte) (s : State) : Result :=
  branch (!s.flags.n) disp s

/-- BMI, opcode 0x30 (44_control_flow.md R216). -/
def execBmi (disp : Byte) (s : State) : Result :=
  branch s.flags.n disp s

/-- BVC, opcode 0x50 (44_control_flow.md R217). -/
def execBvc (disp : Byte) (s : State) : Result :=
  branch (!s.flags.v) disp s

/-- BVS, opcode 0x70 (44_control_flow.md R218). -/
def execBvs (disp : Byte) (s : State) : Result :=
  branch s.flags.v disp s

/-- BCC, opcode 0x90 (44_control_flow.md R219). -/
def execBcc (disp : Byte) (s : State) : Result :=
  branch (!s.flags.c) disp s

/-- BCS, opcode 0xB0 (44_control_flow.md R220). -/
def execBcs (disp : Byte) (s : State) : Result :=
  branch s.flags.c disp s

/-- BNE, opcode 0xD0 (44_control_flow.md R221). -/
def execBne (disp : Byte) (s : State) : Result :=
  branch (!s.flags.z) disp s

/-- BEQ, opcode 0xF0 (44_control_flow.md R222). -/
def execBeq (disp : Byte) (s : State) : Result :=
  branch s.flags.z disp s

end Sys2Proof.Machine
end

