-- ==== Sys2Proof/Machine/Break.lean ====
section
/-! DEFINITION. BRK and RTI (spec/46_break_return.md R245, R246): the trap and its return. -/

namespace Sys2Proof.Machine

/-- BRK, opcode 0x00 (46_break_return.md R245). -/
def execBrk (s : State) : Result :=
  jumped 7 s.takeBreak

/-- RTI, opcode 0x40 (46_break_return.md R246). -/
def execRti (s : State) : Result :=
  jumped 6 s.returnFromBreak

end Sys2Proof.Machine
end

