-- ==== Sys2Proof/Machine/Compare.lean ====
section
/-! DEFINITION. CMP, CPX, CPY (spec/42_logic_arith.md R179 to R181). -/

namespace Sys2Proof.Machine

/-- Compare a register with a byte: flags N, Z, C only (42_logic_arith.md R179). -/
def compareReg (reg m : Byte) (s : State) : State := s.setFlags (compareFlags reg m s.flags)

/-- CMP immediate, opcode 0xC9 (42_logic_arith.md R179). -/
def execCmpImm (data : Byte) (s : State) : Result :=
  finish 2 2 (compareReg s.a data s)

/-- CMP zero page, opcode 0xC5 (42_logic_arith.md R179). -/
def execCmpZp (zp : Byte) (s : State) : Result :=
  finish 2 3 (compareReg s.a (s.memRead (eaZp zp)) s)

/-- CMP zero page,X, opcode 0xD5 (42_logic_arith.md R179). -/
def execCmpZpx (zp : Byte) (s : State) : Result :=
  finish 2 4 (compareReg s.a (s.memRead (eaZpx zp s)) s)

/-- CMP absolute, opcode 0xCD (42_logic_arith.md R179). -/
def execCmpAbs (addr : Addr) (s : State) : Result :=
  finish 3 4 (compareReg s.a (s.memRead addr) s)

/-- CMP absolute,X, opcode 0xDD (42_logic_arith.md R179). -/
def execCmpAbx (addr : Addr) (s : State) : Result :=
  finish 3 (4 + (pxAbx addr s).toNat) (compareReg s.a (s.memRead (eaAbx addr s)) s)

/-- CMP absolute,Y, opcode 0xD9 (42_logic_arith.md R179). -/
def execCmpAby (addr : Addr) (s : State) : Result :=
  finish 3 (4 + (pxAby addr s).toNat) (compareReg s.a (s.memRead (eaAby addr s)) s)

/-- CMP (zero page,X), opcode 0xC1 (42_logic_arith.md R179). -/
def execCmpIzx (zp : Byte) (s : State) : Result :=
  finish 2 6 (compareReg s.a (s.memRead (eaIzx zp s)) s)

/-- CMP (zero page),Y, opcode 0xD1 (42_logic_arith.md R179). -/
def execCmpIzy (zp : Byte) (s : State) : Result :=
  finish 2 (5 + (pxIzy zp s).toNat) (compareReg s.a (s.memRead (eaIzy zp s)) s)

/-- CPX immediate, opcode 0xE0 (42_logic_arith.md R180). -/
def execCpxImm (data : Byte) (s : State) : Result :=
  finish 2 2 (compareReg s.x data s)

/-- CPX zero page, opcode 0xE4 (42_logic_arith.md R180). -/
def execCpxZp (zp : Byte) (s : State) : Result :=
  finish 2 3 (compareReg s.x (s.memRead (eaZp zp)) s)

/-- CPX absolute, opcode 0xEC (42_logic_arith.md R180). -/
def execCpxAbs (addr : Addr) (s : State) : Result :=
  finish 3 4 (compareReg s.x (s.memRead addr) s)

/-- CPY immediate, opcode 0xC0 (42_logic_arith.md R181). -/
def execCpyImm (data : Byte) (s : State) : Result :=
  finish 2 2 (compareReg s.y data s)

/-- CPY zero page, opcode 0xC4 (42_logic_arith.md R181). -/
def execCpyZp (zp : Byte) (s : State) : Result :=
  finish 2 3 (compareReg s.y (s.memRead (eaZp zp)) s)

/-- CPY absolute, opcode 0xCC (42_logic_arith.md R181). -/
def execCpyAbs (addr : Addr) (s : State) : Result :=
  finish 3 4 (compareReg s.y (s.memRead addr) s)

end Sys2Proof.Machine
end

