-- ==== Sys2Proof/Machine/FlagInstr.lean ====
section
/-! DEFINITION. CLC, SEC, CLI, SEI, CLV, CLD, SED, NOP (spec/45_flags_nop.md R230 to R237). -/

namespace Sys2Proof.Machine

/-- CLC, opcode 0x18 (45_flags_nop.md R230). -/
def execClc (s : State) : Result :=
  finish 1 2 (s.setFlags { s.flags with c := false })

/-- SEC, opcode 0x38 (45_flags_nop.md R231). -/
def execSec (s : State) : Result :=
  finish 1 2 (s.setFlags { s.flags with c := true })

/-- CLI, opcode 0x58 (45_flags_nop.md R232). -/
def execCli (s : State) : Result :=
  finish 1 2 (s.setFlags { s.flags with i := false })

/-- SEI, opcode 0x78 (45_flags_nop.md R233). -/
def execSei (s : State) : Result :=
  finish 1 2 (s.setFlags { s.flags with i := true })

/-- CLV, opcode 0xB8 (45_flags_nop.md R234). -/
def execClv (s : State) : Result :=
  finish 1 2 (s.setFlags { s.flags with v := false })

/-- CLD, opcode 0xD8 (45_flags_nop.md R235). -/
def execCld (s : State) : Result :=
  finish 1 2 (s.setFlags { s.flags with d := false })

/-- SED, opcode 0xF8 (45_flags_nop.md R236). -/
def execSed (s : State) : Result :=
  finish 1 2 (s.setFlags { s.flags with d := true })

/-- NOP, opcode 0xEA (45_flags_nop.md R237). -/
def execNop (s : State) : Result :=
  finish 1 2 s

end Sys2Proof.Machine
end

