-- ==== Sys2Proof/Machine/Load.lean ====
section
/-! DEFINITION. LDA, LDX, LDY (spec/40_load_store_transfer.md R141 to R143): the destination is replaced, `SetNZ` on the loaded byte. -/

namespace Sys2Proof.Machine

/-- `A <- M; SetNZ(A)` (40_load_store_transfer.md R141). -/
def loadA (m : Byte) (s : State) : State := (s.setA m).setFlags (setNZ m s.flags)

/-- `X <- M; SetNZ(X)` (40_load_store_transfer.md R142). -/
def loadX (m : Byte) (s : State) : State := (s.setX m).setFlags (setNZ m s.flags)

/-- `Y <- M; SetNZ(Y)` (40_load_store_transfer.md R143). -/
def loadY (m : Byte) (s : State) : State := (s.setY m).setFlags (setNZ m s.flags)

/-- LDA immediate, opcode 0xA9 (40_load_store_transfer.md R141). -/
def execLdaImm (data : Byte) (s : State) : Result :=
  finish 2 2 (loadA data s)

/-- LDA zero page, opcode 0xA5 (40_load_store_transfer.md R141). -/
def execLdaZp (zp : Byte) (s : State) : Result :=
  finish 2 3 (loadA (s.memRead (eaZp zp)) s)

/-- LDA zero page,X, opcode 0xB5 (40_load_store_transfer.md R141). -/
def execLdaZpx (zp : Byte) (s : State) : Result :=
  finish 2 4 (loadA (s.memRead (eaZpx zp s)) s)

/-- LDA absolute, opcode 0xAD (40_load_store_transfer.md R141). -/
def execLdaAbs (addr : Addr) (s : State) : Result :=
  finish 3 4 (loadA (s.memRead addr) s)

/-- LDA absolute,X, opcode 0xBD (40_load_store_transfer.md R141). -/
def execLdaAbx (addr : Addr) (s : State) : Result :=
  finish 3 (4 + (pxAbx addr s).toNat) (loadA (s.memRead (eaAbx addr s)) s)

/-- LDA absolute,Y, opcode 0xB9 (40_load_store_transfer.md R141). -/
def execLdaAby (addr : Addr) (s : State) : Result :=
  finish 3 (4 + (pxAby addr s).toNat) (loadA (s.memRead (eaAby addr s)) s)

/-- LDA (zero page,X), opcode 0xA1 (40_load_store_transfer.md R141). -/
def execLdaIzx (zp : Byte) (s : State) : Result :=
  finish 2 6 (loadA (s.memRead (eaIzx zp s)) s)

/-- LDA (zero page),Y, opcode 0xB1 (40_load_store_transfer.md R141). -/
def execLdaIzy (zp : Byte) (s : State) : Result :=
  finish 2 (5 + (pxIzy zp s).toNat) (loadA (s.memRead (eaIzy zp s)) s)

/-- LDX immediate, opcode 0xA2 (40_load_store_transfer.md R142). -/
def execLdxImm (data : Byte) (s : State) : Result :=
  finish 2 2 (loadX data s)

/-- LDX zero page, opcode 0xA6 (40_load_store_transfer.md R142). -/
def execLdxZp (zp : Byte) (s : State) : Result :=
  finish 2 3 (loadX (s.memRead (eaZp zp)) s)

/-- LDX zero page,Y, opcode 0xB6 (40_load_store_transfer.md R142). -/
def execLdxZpy (zp : Byte) (s : State) : Result :=
  finish 2 4 (loadX (s.memRead (eaZpy zp s)) s)

/-- LDX absolute, opcode 0xAE (40_load_store_transfer.md R142). -/
def execLdxAbs (addr : Addr) (s : State) : Result :=
  finish 3 4 (loadX (s.memRead addr) s)

/-- LDX absolute,Y, opcode 0xBE (40_load_store_transfer.md R142). -/
def execLdxAby (addr : Addr) (s : State) : Result :=
  finish 3 (4 + (pxAby addr s).toNat) (loadX (s.memRead (eaAby addr s)) s)

/-- LDY immediate, opcode 0xA0 (40_load_store_transfer.md R143). -/
def execLdyImm (data : Byte) (s : State) : Result :=
  finish 2 2 (loadY data s)

/-- LDY zero page, opcode 0xA4 (40_load_store_transfer.md R143). -/
def execLdyZp (zp : Byte) (s : State) : Result :=
  finish 2 3 (loadY (s.memRead (eaZp zp)) s)

/-- LDY zero page,X, opcode 0xB4 (40_load_store_transfer.md R143). -/
def execLdyZpx (zp : Byte) (s : State) : Result :=
  finish 2 4 (loadY (s.memRead (eaZpx zp s)) s)

/-- LDY absolute, opcode 0xAC (40_load_store_transfer.md R143). -/
def execLdyAbs (addr : Addr) (s : State) : Result :=
  finish 3 4 (loadY (s.memRead addr) s)

/-- LDY absolute,X, opcode 0xBC (40_load_store_transfer.md R143). -/
def execLdyAbx (addr : Addr) (s : State) : Result :=
  finish 3 (4 + (pxAbx addr s).toNat) (loadY (s.memRead (eaAbx addr s)) s)

end Sys2Proof.Machine
end

