-- ==== Sys2Proof/Machine/IncDec.lean ====
section
/-! DEFINITION. The read-modify-write pattern, INC, DEC, INX, INY, DEX, DEY (spec/43_inc_dec_shift.md R190 to R196). -/

namespace Sys2Proof.Machine

/-- Read-modify-write: one read, the flags, one `MemWrite` to the same address (43_inc_dec_shift.md R190). -/
def rmw (f : Byte → Flags → Byte × Flags) (ea : Addr) (s : State) : State :=
  let r := f (s.memRead ea) s.flags
  (s.setFlags r.2).memWrite ea r.1

/-- INC zero page, opcode 0xE6 (43_inc_dec_shift.md R191). -/
def execIncZp (zp : Byte) (s : State) : Result :=
  finish 2 5 (rmw incFn (eaZp zp) s)

/-- INC zero page,X, opcode 0xF6 (43_inc_dec_shift.md R191). -/
def execIncZpx (zp : Byte) (s : State) : Result :=
  finish 2 6 (rmw incFn (eaZpx zp s) s)

/-- INC absolute, opcode 0xEE (43_inc_dec_shift.md R191). -/
def execIncAbs (addr : Addr) (s : State) : Result :=
  finish 3 6 (rmw incFn addr s)

/-- INC absolute,X, opcode 0xFE (43_inc_dec_shift.md R191). -/
def execIncAbx (addr : Addr) (s : State) : Result :=
  finish 3 7 (rmw incFn (eaAbx addr s) s)

/-- DEC zero page, opcode 0xC6 (43_inc_dec_shift.md R192). -/
def execDecZp (zp : Byte) (s : State) : Result :=
  finish 2 5 (rmw decFn (eaZp zp) s)

/-- DEC zero page,X, opcode 0xD6 (43_inc_dec_shift.md R192). -/
def execDecZpx (zp : Byte) (s : State) : Result :=
  finish 2 6 (rmw decFn (eaZpx zp s) s)

/-- DEC absolute, opcode 0xCE (43_inc_dec_shift.md R192). -/
def execDecAbs (addr : Addr) (s : State) : Result :=
  finish 3 6 (rmw decFn addr s)

/-- DEC absolute,X, opcode 0xDE (43_inc_dec_shift.md R192). -/
def execDecAbx (addr : Addr) (s : State) : Result :=
  finish 3 7 (rmw decFn (eaAbx addr s) s)

/-- INX, opcode 0xE8 (43_inc_dec_shift.md R193). -/
def execInx (s : State) : Result :=
  finish 1 2 (loadX (s.x + 1) s)

/-- INY, opcode 0xC8 (43_inc_dec_shift.md R194). -/
def execIny (s : State) : Result :=
  finish 1 2 (loadY (s.y + 1) s)

/-- DEX, opcode 0xCA (43_inc_dec_shift.md R195). -/
def execDex (s : State) : Result :=
  finish 1 2 (loadX (s.x - 1) s)

/-- DEY, opcode 0x88 (43_inc_dec_shift.md R196). -/
def execDey (s : State) : Result :=
  finish 1 2 (loadY (s.y - 1) s)

end Sys2Proof.Machine
end

