-- ==== Sys2Proof/Machine/Jump.lean ====
section
/-! DEFINITION. JMP, JSR, RTS (spec/44_control_flow.md R211 to R213). The operand bytes are read at decode, before any push (R212). -/

namespace Sys2Proof.Machine

/-- JMP absolute, opcode 0x4C (44_control_flow.md R211). -/
def execJmpAbs (addr : Addr) (s : State) : Result :=
  jumped 3 (s.setPc addr)

/-- JMP (indirect), opcode 0x6C (44_control_flow.md R211). -/
def execJmpInd (addr : Addr) (s : State) : Result :=
  jumped 5 (s.setPc (eaInd addr s))

/-- JSR, opcode 0x20 (44_control_flow.md R212). -/
def execJsr (addr : Addr) (s : State) : Result :=
  jumped 6 ((s.pushWord (s.pc + 2)).setPc addr)

/-- RTS, opcode 0x60 (44_control_flow.md R213). -/
def execRts (s : State) : Result :=
  jumped 6 (s.pullWord.2.setPc (s.pullWord.1 + 1))

end Sys2Proof.Machine
end

