-- ==== Sys2Proof/Machine/Logic.lean ====
section
/-! DEFINITION. AND, ORA, EOR, BIT (spec/42_logic_arith.md R171 to R174). -/

namespace Sys2Proof.Machine

/-- `A <- A & M; SetNZ(A)` (42_logic_arith.md R171). -/
def andA (m : Byte) (s : State) : State := loadA (s.a &&& m) s

/-- `A <- A | M; SetNZ(A)` (42_logic_arith.md R172). -/
def orA (m : Byte) (s : State) : State := loadA (s.a ||| m) s

/-- `A <- A ^ M; SetNZ(A)` (42_logic_arith.md R173). -/
def eorA (m : Byte) (s : State) : State := loadA (s.a ^^^ m) s

/-- BIT: the flags of `A & M` and of `M`, A unchanged (42_logic_arith.md R174). -/
def testBits (m : Byte) (s : State) : State := s.setFlags (bitFlags s.a m s.flags)

/-- AND immediate, opcode 0x29 (42_logic_arith.md R171). -/
def execAndImm (data : Byte) (s : State) : Result :=
  finish 2 2 (andA data s)

/-- AND zero page, opcode 0x25 (42_logic_arith.md R171). -/
def execAndZp (zp : Byte) (s : State) : Result :=
  finish 2 3 (andA (s.memRead (eaZp zp)) s)

/-- AND zero page,X, opcode 0x35 (42_logic_arith.md R171). -/
def execAndZpx (zp : Byte) (s : State) : Result :=
  finish 2 4 (andA (s.memRead (eaZpx zp s)) s)

/-- AND absolute, opcode 0x2D (42_logic_arith.md R171). -/
def execAndAbs (addr : Addr) (s : State) : Result :=
  finish 3 4 (andA (s.memRead addr) s)

/-- AND absolute,X, opcode 0x3D (42_logic_arith.md R171). -/
def execAndAbx (addr : Addr) (s : State) : Result :=
  finish 3 (4 + (pxAbx addr s).toNat) (andA (s.memRead (eaAbx addr s)) s)

/-- AND absolute,Y, opcode 0x39 (42_logic_arith.md R171). -/
def execAndAby (addr : Addr) (s : State) : Result :=
  finish 3 (4 + (pxAby addr s).toNat) (andA (s.memRead (eaAby addr s)) s)

/-- AND (zero page,X), opcode 0x21 (42_logic_arith.md R171). -/
def execAndIzx (zp : Byte) (s : State) : Result :=
  finish 2 6 (andA (s.memRead (eaIzx zp s)) s)

/-- AND (zero page),Y, opcode 0x31 (42_logic_arith.md R171). -/
def execAndIzy (zp : Byte) (s : State) : Result :=
  finish 2 (5 + (pxIzy zp s).toNat) (andA (s.memRead (eaIzy zp s)) s)

/-- ORA immediate, opcode 0x09 (42_logic_arith.md R172). -/
def execOraImm (data : Byte) (s : State) : Result :=
  finish 2 2 (orA data s)

/-- ORA zero page, opcode 0x05 (42_logic_arith.md R172). -/
def execOraZp (zp : Byte) (s : State) : Result :=
  finish 2 3 (orA (s.memRead (eaZp zp)) s)

/-- ORA zero page,X, opcode 0x15 (42_logic_arith.md R172). -/
def execOraZpx (zp : Byte) (s : State) : Result :=
  finish 2 4 (orA (s.memRead (eaZpx zp s)) s)

/-- ORA absolute, opcode 0x0D (42_logic_arith.md R172). -/
def execOraAbs (addr : Addr) (s : State) : Result :=
  finish 3 4 (orA (s.memRead addr) s)

/-- ORA absolute,X, opcode 0x1D (42_logic_arith.md R172). -/
def execOraAbx (addr : Addr) (s : State) : Result :=
  finish 3 (4 + (pxAbx addr s).toNat) (orA (s.memRead (eaAbx addr s)) s)

/-- ORA absolute,Y, opcode 0x19 (42_logic_arith.md R172). -/
def execOraAby (addr : Addr) (s : State) : Result :=
  finish 3 (4 + (pxAby addr s).toNat) (orA (s.memRead (eaAby addr s)) s)

/-- ORA (zero page,X), opcode 0x01 (42_logic_arith.md R172). -/
def execOraIzx (zp : Byte) (s : State) : Result :=
  finish 2 6 (orA (s.memRead (eaIzx zp s)) s)

/-- ORA (zero page),Y, opcode 0x11 (42_logic_arith.md R172). -/
def execOraIzy (zp : Byte) (s : State) : Result :=
  finish 2 (5 + (pxIzy zp s).toNat) (orA (s.memRead (eaIzy zp s)) s)

/-- EOR immediate, opcode 0x49 (42_logic_arith.md R173). -/
def execEorImm (data : Byte) (s : State) : Result :=
  finish 2 2 (eorA data s)

/-- EOR zero page, opcode 0x45 (42_logic_arith.md R173). -/
def execEorZp (zp : Byte) (s : State) : Result :=
  finish 2 3 (eorA (s.memRead (eaZp zp)) s)

/-- EOR zero page,X, opcode 0x55 (42_logic_arith.md R173). -/
def execEorZpx (zp : Byte) (s : State) : Result :=
  finish 2 4 (eorA (s.memRead (eaZpx zp s)) s)

/-- EOR absolute, opcode 0x4D (42_logic_arith.md R173). -/
def execEorAbs (addr : Addr) (s : State) : Result :=
  finish 3 4 (eorA (s.memRead addr) s)

/-- EOR absolute,X, opcode 0x5D (42_logic_arith.md R173). -/
def execEorAbx (addr : Addr) (s : State) : Result :=
  finish 3 (4 + (pxAbx addr s).toNat) (eorA (s.memRead (eaAbx addr s)) s)

/-- EOR absolute,Y, opcode 0x59 (42_logic_arith.md R173). -/
def execEorAby (addr : Addr) (s : State) : Result :=
  finish 3 (4 + (pxAby addr s).toNat) (eorA (s.memRead (eaAby addr s)) s)

/-- EOR (zero page,X), opcode 0x41 (42_logic_arith.md R173). -/
def execEorIzx (zp : Byte) (s : State) : Result :=
  finish 2 6 (eorA (s.memRead (eaIzx zp s)) s)

/-- EOR (zero page),Y, opcode 0x51 (42_logic_arith.md R173). -/
def execEorIzy (zp : Byte) (s : State) : Result :=
  finish 2 (5 + (pxIzy zp s).toNat) (eorA (s.memRead (eaIzy zp s)) s)

/-- BIT zero page, opcode 0x24 (42_logic_arith.md R174). -/
def execBitZp (zp : Byte) (s : State) : Result :=
  finish 2 3 (testBits (s.memRead (eaZp zp)) s)

/-- BIT absolute, opcode 0x2C (42_logic_arith.md R174). -/
def execBitAbs (addr : Addr) (s : State) : Result :=
  finish 3 4 (testBits (s.memRead addr) s)

end Sys2Proof.Machine
end

