-- ==== Sys2Proof/Machine/Shift.lean ====
section
/-! DEFINITION. ASL, LSR, ROL, ROR (spec/43_inc_dec_shift.md R197 to R200). -/

namespace Sys2Proof.Machine

/-- The accumulator form: operand and destination `A` (30_encoding.md R111). -/
def onA (f : Byte → Flags → Byte × Flags) (s : State) : State :=
  let r := f s.a s.flags
  (s.setFlags r.2).setA r.1

/-- ASL accumulator, opcode 0x0A (43_inc_dec_shift.md R197). -/
def execAslAcc (s : State) : Result :=
  finish 1 2 (onA aslFn s)

/-- ASL zero page, opcode 0x06 (43_inc_dec_shift.md R197). -/
def execAslZp (zp : Byte) (s : State) : Result :=
  finish 2 5 (rmw aslFn (eaZp zp) s)

/-- ASL zero page,X, opcode 0x16 (43_inc_dec_shift.md R197). -/
def execAslZpx (zp : Byte) (s : State) : Result :=
  finish 2 6 (rmw aslFn (eaZpx zp s) s)

/-- ASL absolute, opcode 0x0E (43_inc_dec_shift.md R197). -/
def execAslAbs (addr : Addr) (s : State) : Result :=
  finish 3 6 (rmw aslFn addr s)

/-- ASL absolute,X, opcode 0x1E (43_inc_dec_shift.md R197). -/
def execAslAbx (addr : Addr) (s : State) : Result :=
  finish 3 7 (rmw aslFn (eaAbx addr s) s)

/-- LSR accumulator, opcode 0x4A (43_inc_dec_shift.md R198). -/
def execLsrAcc (s : State) : Result :=
  finish 1 2 (onA lsrFn s)

/-- LSR zero page, opcode 0x46 (43_inc_dec_shift.md R198). -/
def execLsrZp (zp : Byte) (s : State) : Result :=
  finish 2 5 (rmw lsrFn (eaZp zp) s)

/-- LSR zero page,X, opcode 0x56 (43_inc_dec_shift.md R198). -/
def execLsrZpx (zp : Byte) (s : State) : Result :=
  finish 2 6 (rmw lsrFn (eaZpx zp s) s)

/-- LSR absolute, opcode 0x4E (43_inc_dec_shift.md R198). -/
def execLsrAbs (addr : Addr) (s : State) : Result :=
  finish 3 6 (rmw lsrFn addr s)

/-- LSR absolute,X, opcode 0x5E (43_inc_dec_shift.md R198). -/
def execLsrAbx (addr : Addr) (s : State) : Result :=
  finish 3 7 (rmw lsrFn (eaAbx addr s) s)

/-- ROL accumulator, opcode 0x2A (43_inc_dec_shift.md R199). -/
def execRolAcc (s : State) : Result :=
  finish 1 2 (onA rolFn s)

/-- ROL zero page, opcode 0x26 (43_inc_dec_shift.md R199). -/
def execRolZp (zp : Byte) (s : State) : Result :=
  finish 2 5 (rmw rolFn (eaZp zp) s)

/-- ROL zero page,X, opcode 0x36 (43_inc_dec_shift.md R199). -/
def execRolZpx (zp : Byte) (s : State) : Result :=
  finish 2 6 (rmw rolFn (eaZpx zp s) s)

/-- ROL absolute, opcode 0x2E (43_inc_dec_shift.md R199). -/
def execRolAbs (addr : Addr) (s : State) : Result :=
  finish 3 6 (rmw rolFn addr s)

/-- ROL absolute,X, opcode 0x3E (43_inc_dec_shift.md R199). -/
def execRolAbx (addr : Addr) (s : State) : Result :=
  finish 3 7 (rmw rolFn (eaAbx addr s) s)

/-- ROR accumulator, opcode 0x6A (43_inc_dec_shift.md R200). -/
def execRorAcc (s : State) : Result :=
  finish 1 2 (onA rorFn s)

/-- ROR zero page, opcode 0x66 (43_inc_dec_shift.md R200). -/
def execRorZp (zp : Byte) (s : State) : Result :=
  finish 2 5 (rmw rorFn (eaZp zp) s)

/-- ROR zero page,X, opcode 0x76 (43_inc_dec_shift.md R200). -/
def execRorZpx (zp : Byte) (s : State) : Result :=
  finish 2 6 (rmw rorFn (eaZpx zp s) s)

/-- ROR absolute, opcode 0x6E (43_inc_dec_shift.md R200). -/
def execRorAbs (addr : Addr) (s : State) : Result :=
  finish 3 6 (rmw rorFn addr s)

/-- ROR absolute,X, opcode 0x7E (43_inc_dec_shift.md R200). -/
def execRorAbx (addr : Addr) (s : State) : Result :=
  finish 3 7 (rmw rorFn (eaAbx addr s) s)

end Sys2Proof.Machine
end

