-- ==== Sys2Proof/Machine/Stack.lean ====
section
/-! DEFINITION. PHA, PHP, PLA, PLP (spec/41_stack.md R162 to R165). -/

namespace Sys2Proof.Machine

/-- PHA, opcode 0x48 (41_stack.md R162). -/
def execPha (s : State) : Result :=
  finish 1 3 (s.push s.a)

/-- PHP, opcode 0x08 (41_stack.md R163). -/
def execPhp (s : State) : Result :=
  finish 1 3 (s.push (packP true s.flags))

/-- PLA, opcode 0x68 (41_stack.md R164). -/
def execPla (s : State) : Result :=
  finish 1 4 (loadA s.pull.1 s.pull.2)

/-- PLP, opcode 0x28 (41_stack.md R165). -/
def execPlp (s : State) : Result :=
  finish 1 4 (s.pull.2.setFlags (unpackP s.pull.1))

end Sys2Proof.Machine
end

