-- ==== Sys2Proof/Machine/Store.lean ====
section
/-! DEFINITION. STA, STX, STY (spec/40_load_store_transfer.md R144 to R146): one `MemWrite`, no flag, a fixed cost. -/

namespace Sys2Proof.Machine

/-- STA zero page, opcode 0x85 (40_load_store_transfer.md R144). -/
def execStaZp (zp : Byte) (s : State) : Result :=
  finish 2 3 (s.memWrite (eaZp zp) s.a)

/-- STA zero page,X, opcode 0x95 (40_load_store_transfer.md R144). -/
def execStaZpx (zp : Byte) (s : State) : Result :=
  finish 2 4 (s.memWrite (eaZpx zp s) s.a)

/-- STA absolute, opcode 0x8D (40_load_store_transfer.md R144). -/
def execStaAbs (addr : Addr) (s : State) : Result :=
  finish 3 4 (s.memWrite addr s.a)

/-- STA absolute,X, opcode 0x9D (40_load_store_transfer.md R144). -/
def execStaAbx (addr : Addr) (s : State) : Result :=
  finish 3 5 (s.memWrite (eaAbx addr s) s.a)

/-- STA absolute,Y, opcode 0x99 (40_load_store_transfer.md R144). -/
def execStaAby (addr : Addr) (s : State) : Result :=
  finish 3 5 (s.memWrite (eaAby addr s) s.a)

/-- STA (zero page,X), opcode 0x81 (40_load_store_transfer.md R144). -/
def execStaIzx (zp : Byte) (s : State) : Result :=
  finish 2 6 (s.memWrite (eaIzx zp s) s.a)

/-- STA (zero page),Y, opcode 0x91 (40_load_store_transfer.md R144). -/
def execStaIzy (zp : Byte) (s : State) : Result :=
  finish 2 6 (s.memWrite (eaIzy zp s) s.a)

/-- STX zero page, opcode 0x86 (40_load_store_transfer.md R145). -/
def execStxZp (zp : Byte) (s : State) : Result :=
  finish 2 3 (s.memWrite (eaZp zp) s.x)

/-- STX zero page,Y, opcode 0x96 (40_load_store_transfer.md R145). -/
def execStxZpy (zp : Byte) (s : State) : Result :=
  finish 2 4 (s.memWrite (eaZpy zp s) s.x)

/-- STX absolute, opcode 0x8E (40_load_store_transfer.md R145). -/
def execStxAbs (addr : Addr) (s : State) : Result :=
  finish 3 4 (s.memWrite addr s.x)

/-- STY zero page, opcode 0x84 (40_load_store_transfer.md R146). -/
def execStyZp (zp : Byte) (s : State) : Result :=
  finish 2 3 (s.memWrite (eaZp zp) s.y)

/-- STY zero page,X, opcode 0x94 (40_load_store_transfer.md R146). -/
def execStyZpx (zp : Byte) (s : State) : Result :=
  finish 2 4 (s.memWrite (eaZpx zp s) s.y)

/-- STY absolute, opcode 0x8C (40_load_store_transfer.md R146). -/
def execStyAbs (addr : Addr) (s : State) : Result :=
  finish 3 4 (s.memWrite addr s.y)

end Sys2Proof.Machine
end

