-- ==== Sys2Proof/Machine/Transfer.lean ====
section
/-! DEFINITION. Register transfers (spec/40_load_store_transfer.md R147 to R152); TXS alone writes no flag. -/

namespace Sys2Proof.Machine

/-- TAX, opcode 0xAA (40_load_store_transfer.md R147). -/
def execTax (s : State) : Result :=
  finish 1 2 (loadX s.a s)

/-- TAY, opcode 0xA8 (40_load_store_transfer.md R148). -/
def execTay (s : State) : Result :=
  finish 1 2 (loadY s.a s)

/-- TXA, opcode 0x8A (40_load_store_transfer.md R149). -/
def execTxa (s : State) : Result :=
  finish 1 2 (loadA s.x s)

/-- TYA, opcode 0x98 (40_load_store_transfer.md R150). -/
def execTya (s : State) : Result :=
  finish 1 2 (loadA s.y s)

/-- TSX, opcode 0xBA (40_load_store_transfer.md R151). -/
def execTsx (s : State) : Result :=
  finish 1 2 (loadX s.sp s)

/-- TXS, opcode 0x9A (40_load_store_transfer.md R152). -/
def execTxs (s : State) : Result :=
  finish 1 2 (s.setSp s.x)

end Sys2Proof.Machine
end

