-- ==== Sys2Proof/Machine/Step.lean ====
section
/-! DEFINITION. The step: fetch and decode at `PC`, then the instruction's meaning (spec/70_reset_and_hazards.md R345). -/

namespace Sys2Proof.Machine

/-- `step()`: an undefined opcode faults with no state changed, any other opcode executes its rule (70_reset_and_hazards.md R345).
It knows nothing of sentinels or ceilings. -/
def step (s : State) : Host.Outcome State Fault Refusal :=
  match fetch s with
  | some i => exec i s
  | none => unsupported s

/-- The state with an instruction's bytes (its low `nbits` bits, the bits above them 0) stored at `PC`, where the next step fetches
(log 1). -/
def State.withFetchWord (s : State) (nbits w : Nat) : State := storeBytes (tableBytes nbits w) s.pc s

end Sys2Proof.Machine
end

