-- ==== Sys2Proof/Machine/Session.lean ====
section
/-! DEFINITION. The host protocol (spec/70_reset_and_hazards.md R340 to R358): the Loader, placement, `run_until`, `Call`, the frame loop
and `capture`. The host acts only between runs (R351). -/

namespace Sys2Proof.Machine

/-- The Loader's failure (70_reset_and_hazards.md R342), returned bare, with no frame index and no Trace. -/
inductive LoadError where
  /-- the file is shorter than its header, or the payload's end lies beyond the address space -/
  | formatError
deriving DecidableEq, Repr

/-- Where a payload goes, before the size check: the load address and the payload (70_reset_and_hazards.md R342). -/
def splitFile (file : List Byte) (override : Option Addr) : Option (Addr × List Byte) :=
  match override, file with
  | some addr, bytes => some (addr, bytes)
  | none, lo :: hi :: payload => some (word16 hi lo, payload)
  | none, _ => none

/-- `Load(file, override)` with the entry overrides and the frame count of the session (70_reset_and_hazards.md R341, R342). -/
def load (file : List Byte) (o : Overrides) (frameCount : Nat) : Except LoadError Launch :=
  match splitFile file o.loadAddr with
  | none => .error .formatError
  | some (addr, payload) =>
    if addr.toNat + payload.length > 0x10000 then .error .formatError
    else
      .ok
        { loadAddr := addr
          payload := payload
          initAddr := o.initAddr.getD addr
          playAddr := o.playAddr.getD addr
          frameCount := frameCount }

/-- The session's first state: the reset, then the payload placed by host writes (70_reset_and_hazards.md R340, R343). -/
def openSession (p : Params) (l : Launch) : State :=
  storeBytes l.payload l.loadAddr (State.sessionReset p.initA)

/-- The answer of `run_until` (70_reset_and_hazards.md R346), with the state the run leaves. -/
inductive RunResult where
  /-- the predicate held: the cycles used, and the state -/
  | done (used : Nat) (s : State)
  /-- `UnsupportedOpcode` from a step, or `InfiniteLoopDetected`: the state is that of the last completed step (60_exceptions.md
  R301, R302) -/
  | fault (f : Fault) (s : State)
  /-- a step was refused by the model, which no step of this model is (log 12) -/
  | refused (r : Refusal) (s : State)
deriving DecidableEq, Repr

/-- `InfiniteLoopDetected` at the next instruction (60_exceptions.md R302). -/
def loopDetected (s : State) : RunResult :=
  .fault (.infiniteLoopDetected s.pc (s.memRead s.pc) s.used) s

/-- The loop of `run_until`: before each step first the predicate, then the ceiling (70_reset_and_hazards.md R346). The first argument
bounds the steps still allowed; where it is 0 the sum is over the ceiling (log 11). -/
def runLoop (cond : State → Bool) (ceiling : Nat) : Nat → State → RunResult
  | 0, s => if cond s then .done s.used s else loopDetected s
  | steps + 1, s =>
    if cond s then .done s.used s
    else if s.used > ceiling then loopDetected s
    else
      match step s with
      | .next t => runLoop cond ceiling steps t
      | .fault f => .fault f s
      | .refused r => .refused r s

/-- How many steps a run with a ceiling can take: every step costs at least 2 cycles (70_reset_and_hazards.md R372). -/
def maxSteps (ceiling : Nat) : Nat := ceiling / 2 + 1

/-- `run_until(cond, ceiling)`, its cycle sum starting at 0 (70_reset_and_hazards.md R346). -/
def runUntil (cond : State → Bool) (ceiling : Nat) (s : State) : RunResult :=
  runLoop cond ceiling (maxSteps ceiling) { s with used := 0 }

/-- What the host writes before a routine's first instruction: the return address `SENTINEL - 1` on the stack, `SP` and `PC`; host
writes, so no hook (70_reset_and_hazards.md R347). -/
def enterRoutine (p : Params) (entry : Addr) (s : State) : State :=
  let r := p.sentinel - 1
  (((s.hostWrite 0x01FF (hi8 r)).hostWrite 0x01FE (lo8 r)).setSp 0xFD).setPc entry

/-- The host's predicate: the routine has returned to the sentinel (70_reset_and_hazards.md R347, R348). -/
def returned (p : Params) (s : State) : Bool := s.pc == p.sentinel

/-- `Call(entry, ceiling)` (70_reset_and_hazards.md R347). -/
def call (p : Params) (entry : Addr) (ceiling : Nat) (s : State) : RunResult :=
  runUntil (returned p) ceiling (enterRoutine p entry s)

/-- Why a capture ended early (60_exceptions.md R304, 90_conflicts.md C1). -/
inductive Cause where
  /-- from a step, in the init call or a play call -/
  | unsupportedOpcode
  /-- the init call exceeded its ceiling; cycles used -/
  | infiniteLoopDetected (used : Nat)
  /-- a play call exceeded its ceiling; cycles used (60_exceptions.md R303) -/
  | frameTimeout (used : Nat)
  /-- the model refused a step, which it never does (log 12) -/
  | refused (r : Refusal)
deriving DecidableEq, Repr

/-- `PartialCaptureError` but for the Trace, which the capture's result holds (60_exceptions.md R304). -/
structure CaptureError where
  cause : Cause
  frameIndex : Nat
  pc : Addr
  opcode : Byte
deriving DecidableEq, Repr

/-- A fault of the init call, annotated: frame index 0 (70_reset_and_hazards.md R353). -/
def initError : Fault → CaptureError
  | .unsupportedOpcode pc opcode => ⟨.unsupportedOpcode, Config.frameBase, pc, opcode⟩
  | .infiniteLoopDetected pc opcode used => ⟨.infiniteLoopDetected used, Config.frameBase, pc, opcode⟩

/-- A fault of the play call of frame `k`, annotated (70_reset_and_hazards.md R356, 60_exceptions.md R303). -/
def playError (k : Nat) : Fault → CaptureError
  | .unsupportedOpcode pc opcode => ⟨.unsupportedOpcode, k, pc, opcode⟩
  | .infiniteLoopDetected pc opcode used => ⟨.frameTimeout used, k, pc, opcode⟩

/-- A refused step, annotated (log 12). -/
def refusedError (k : Nat) (r : Refusal) (s : State) : CaptureError := ⟨.refused r, k, s.pc, s.memRead s.pc⟩

/-- The pending events of a failed call are dropped (70_reset_and_hazards.md R353, R356). -/
def dropPending (s : State) : State := { s with pending := [] }

/-- `cur_frame <- k` (70_reset_and_hazards.md R352, R354). -/
def State.setFrame (k : Nat) (s : State) : State := { s with curFrame := k }

/-- The frame loop: so many play calls still to make, the next one frame `k` (70_reset_and_hazards.md R354, R356). -/
def playFrames (p : Params) (l : Launch) : Nat → Nat → State → State × Option CaptureError
  | 0, _, s => (s, none)
  | remaining + 1, k, s =>
    match call p l.playAddr p.playCeiling (s.setFrame k) with
    | .done _ t => playFrames p l remaining (k + 1) (flush k t)
    | .fault f t => (dropPending t, some (playError k f))
    | .refused r t => (dropPending t, some (refusedError k r t))

/-- A session from its launch arguments: the final state, whose `trace` is the Trace, and the error of a partial capture
(70_reset_and_hazards.md R350, R352 to R356). -/
def runSession (p : Params) (l : Launch) : State × Option CaptureError :=
  match call p l.initAddr p.initCeiling ((openSession p l).setFrame Config.frameBase) with
  | .done _ s => playFrames p l l.frameCount Config.frameBase s
  | .fault f s => (dropPending s, some (initError f))
  | .refused r s => (dropPending s, some (refusedError Config.frameBase r s))

/-- What `capture` returns: the Trace, and the error of a partial capture, none on success (70_reset_and_hazards.md R350, R355). -/
structure CaptureResult where
  trace : List Frame
  error : Option CaptureError
deriving DecidableEq, Repr

/-- The capture of a session's launch arguments (70_reset_and_hazards.md R350). -/
def captureLaunch (p : Params) (l : Launch) : CaptureResult :=
  { trace := (runSession p l).1.trace, error := (runSession p l).2 }

/-- `capture(file, overrides, N)`; a `FormatError` is returned bare (70_reset_and_hazards.md R350, 90_conflicts.md C10). -/
def capture (p : Params) (file : List Byte) (o : Overrides) (frameCount : Nat) : Except LoadError CaptureResult :=
  match load file o frameCount with
  | .error e => .error e
  | .ok l => .ok (captureLaunch p l)

end Sys2Proof.Machine
end

