-- ==== Sys2Proof/Safety.lean ====
section
/-! DEFINITION. The vocabulary of the claims: what it is for an instruction to complete with a given effect, the invariant of a safe run,
and the tables of the spec (flags, cycle costs, undefined opcodes, chip registers) written out a second time, apart from the meanings. -/

namespace Sys2Proof.Machine

/-- The effect of one completed step: what the registers, `PC` and the flags then hold, the cycles it costs, and the `MemWrite`s it
performs, in order. -/
structure Effect where
  a : Byte
  x : Byte
  y : Byte
  sp : Byte
  pc : Addr
  flags : Flags
  cycles : Nat
  writes : List (Addr × Byte)
deriving DecidableEq, Repr

/-- The effect of going on to the next instruction after `length` bytes and changing nothing else, at a cost. -/
def State.seq (s : State) (length cycles : Nat) : Effect :=
  ⟨s.a, s.x, s.y, s.sp, s.pc + BitVec.ofNat 16 length, s.flags, cycles, []⟩

/-- The byte at an address after some writes: the last one written there, or the byte that was there. -/
def byteAfter (s : State) (writes : List (Addr × Byte)) (addr : Addr) : Byte :=
  writes.foldl (fun b w => if w.1 = addr then w.2 else b) (s.memRead addr)

/-- The events that some writes make in a frame: one for each write to 0xD400 to 0xD418, in order (47_chip_tracker.md R261, R263). -/
def eventsOf (frame : Nat) (writes : List (Addr × Byte)) : List Event :=
  (writes.filter (fun w => decide (0xD400 ≤ w.1.toNat ∧ w.1.toNat ≤ 0xD418))).map (fun w => ⟨frame, w.1, w.2⟩)

/-- `t` is `s` with an effect: the registers, `PC` and the flags hold what the effect says, its cycles are added, every byte of memory
outside its writes is unchanged, the tracker has seen exactly its writes, and nothing else has changed. -/
def Achieves (s t : State) (e : Effect) : Prop :=
  t.a = e.a ∧ t.x = e.x ∧ t.y = e.y ∧ t.sp = e.sp ∧ t.pc = e.pc ∧ t.flags = e.flags ∧ t.used = s.used + e.cycles ∧
  (∀ addr : Addr, t.memRead addr = byteAfter s e.writes addr) ∧
  t.pending = s.pending ++ eventsOf s.curFrame e.writes ∧
  t.tracker = replay s.tracker (eventsOf s.curFrame e.writes) ∧
  t.curFrame = s.curFrame ∧ t.trace = s.trace

/-- The instruction has the given bytes, and at `s` it COMPLETES: `exec` answers a next state, which is `s` with the given effect. -/
def Completes (i : Instr) (bytes : List Byte) (s : State) (e : Effect) : Prop :=
  encode i = bytes ∧ ∃ t, exec i s = .next t ∧ Achieves s t e

/-- N and Z of a byte, by its unsigned value (10_state.md R33). -/
def flagsNZ (v : Byte) (f : Flags) : Flags := { f with n := decide (0x80 ≤ v.toNat), z := decide (v.toNat = 0) }

/-- The status image with bits 5 and 4 set, by its unsigned value (10_state.md R28, R35). -/
def statusByte (f : Flags) : Byte :=
  BitVec.ofNat 8 (128 * f.n.toNat + 64 * f.v.toNat + 32 + 16 + 8 * f.d.toNat + 4 * f.i.toNat + 2 * f.z.toNat + f.c.toNat)

/-- The six flags of a status image, by its unsigned value (10_state.md R28, R36). -/
def flagsOfByte (v : Byte) : Flags :=
  { n := decide (v.toNat / 128 % 2 = 1), v := decide (v.toNat / 64 % 2 = 1), d := decide (v.toNat / 8 % 2 = 1)
    i := decide (v.toNat / 4 % 2 = 1), z := decide (v.toNat / 2 % 2 = 1), c := decide (v.toNat % 2 = 1) }

/-- One cycle more when two addresses lie in different pages (30_encoding.md R117, R118, R120, R122). -/
def pageCost (base ea : Addr) : Nat := if base.toNat / 0x100 = ea.toNat / 0x100 then 0 else 1

/-- `A <- m`, N and Z of `m` (40_load_store_transfer.md R141). -/
def State.loadsA (s : State) (m : Byte) (length cycles : Nat) : Effect :=
  { s.seq length cycles with a := m, flags := flagsNZ m s.flags }

/-- `X <- m`, N and Z of `m` (40_load_store_transfer.md R142). -/
def State.loadsX (s : State) (m : Byte) (length cycles : Nat) : Effect :=
  { s.seq length cycles with x := m, flags := flagsNZ m s.flags }

/-- `Y <- m`, N and Z of `m` (40_load_store_transfer.md R143). -/
def State.loadsY (s : State) (m : Byte) (length cycles : Nat) : Effect :=
  { s.seq length cycles with y := m, flags := flagsNZ m s.flags }

/-- One byte stored at an address, nothing else (40_load_store_transfer.md R144). -/
def State.stores (s : State) (addr : Addr) (v : Byte) (length cycles : Nat) : Effect :=
  { s.seq length cycles with writes := [(addr, v)] }

/-- One byte pushed (41_stack.md R160). -/
def State.pushes (s : State) (v : Byte) (length cycles : Nat) : Effect :=
  { s.seq length cycles with writes := [(stackAddr s.sp, v)], sp := s.sp - 1 }

/-- Only the flags change. -/
def State.sets (s : State) (f : Flags) (length cycles : Nat) : Effect := { s.seq length cycles with flags := f }

/-- A byte is negative when its bit 7 is 1. -/
def negative (v : Byte) : Bool := decide (0x80 ≤ v.toNat)

/-- ADC with `D = 0` (42_logic_arith.md R176): `t = A + M + C`; V when A and M have the same bit 7 and the result has the other. -/
def State.adds (s : State) (m : Byte) (length cycles : Nat) : Effect :=
  let t := s.a.toNat + m.toNat + s.flags.c.toNat
  let r : Byte := BitVec.ofNat 8 (t % 0x100)
  { s.seq length cycles with
    a := r
    flags := { flagsNZ r s.flags with
      v := (negative s.a == negative m) && (negative r != negative s.a), c := decide (0xFF < t) } }

/-- SBC with `D = 0` (42_logic_arith.md R177): `t = A - M - (1 - C)`, here with 0x100 added so that it is a natural number; C when there
is no borrow; V when A and M differ in bit 7 and the result differs from A in bit 7. -/
def State.subtracts (s : State) (m : Byte) (length cycles : Nat) : Effect :=
  let t := s.a.toNat + 0x100 - m.toNat - (1 - s.flags.c.toNat)
  let r : Byte := BitVec.ofNat 8 (t % 0x100)
  { s.seq length cycles with
    a := r
    flags := { flagsNZ r s.flags with
      v := (negative s.a != negative m) && (negative r != negative s.a), c := decide (0x100 ≤ t) } }

/-- A compare of a register with `m` (42_logic_arith.md R179): N and Z of the 8-bit difference, C when the register is greater than or
equal to `m`, unsigned. -/
def State.compares (s : State) (reg m : Byte) (length cycles : Nat) : Effect :=
  s.sets { flagsNZ (BitVec.ofNat 8 (reg.toNat + 0x100 - m.toNat)) s.flags with c := decide (m.toNat ≤ reg.toNat) } length cycles

/-- BIT (42_logic_arith.md R174): Z of `A & m`, N and V from bits 7 and 6 of `m`. -/
def State.tests (s : State) (m : Byte) (length cycles : Nat) : Effect :=
  s.sets { s.flags with
    z := decide ((s.a &&& m).toNat = 0), n := negative m, v := decide (m.toNat / 64 % 2 = 1) } length cycles

/-- A read-modify-write that leaves C alone (43_inc_dec_shift.md R190): `r` stored at `addr`, N and Z of `r`. -/
def State.modifies (s : State) (addr : Addr) (r : Byte) (length cycles : Nat) : Effect :=
  { s.seq length cycles with writes := [(addr, r)], flags := flagsNZ r s.flags }

/-- A one-bit shift of a byte with the incoming C: the result by unsigned value, and the outgoing C. -/
abbrev ShiftRule := Byte → Bool → Byte × Bool

/-- ASL: twice the value, C the old bit 7 (43_inc_dec_shift.md R197). -/
def aslRule : ShiftRule := fun v _ => (BitVec.ofNat 8 (v.toNat * 2 % 0x100), negative v)

/-- LSR: half the value, C the old bit 0 (43_inc_dec_shift.md R198). -/
def lsrRule : ShiftRule := fun v _ => (BitVec.ofNat 8 (v.toNat / 2), decide (v.toNat % 2 = 1))

/-- ROL: twice the value plus the old C, C the old bit 7 (43_inc_dec_shift.md R199). -/
def rolRule : ShiftRule := fun v c => (BitVec.ofNat 8 ((v.toNat * 2 + c.toNat) % 0x100), negative v)

/-- ROR: half the value, the old C in bit 7, C the old bit 0 (43_inc_dec_shift.md R200). -/
def rorRule : ShiftRule := fun v c => (BitVec.ofNat 8 (v.toNat / 2 + 0x80 * c.toNat), decide (v.toNat % 2 = 1))

/-- A shift of the accumulator (43_inc_dec_shift.md R197 to R200). -/
def State.shiftsA (s : State) (rule : ShiftRule) : Effect :=
  let r := rule s.a s.flags.c
  { s.seq 1 2 with a := r.1, flags := { flagsNZ r.1 s.flags with c := r.2 } }

/-- A shift of the byte at an address, written back once (43_inc_dec_shift.md R190, R197 to R200). -/
def State.shifts (s : State) (rule : ShiftRule) (addr : Addr) (length cycles : Nat) : Effect :=
  let r := rule (s.memRead addr) s.flags.c
  { s.seq length cycles with writes := [(addr, r.1)], flags := { flagsNZ r.1 s.flags with c := r.2 } }

/-- A jump: only `PC` changes. -/
def State.jumps (s : State) (target : Addr) (cycles : Nat) : Effect := { s.seq 0 cycles with pc := target }

/-- A conditional branch (44_control_flow.md R214). -/
def State.branches (s : State) (taken : Bool) (disp : Byte) : Effect :=
  if taken then s.jumps (branchTarget disp s) (3 + pageCost (s.pc + 2) (branchTarget disp s)) else s.seq 2 2

/-- The invariant of a safe run: memory in canonical form; every pending event lies in the window and carries the current frame; the
Trace's frames are numbered from 0 without a gap, and the events of frame `k` carry `k` (10_state.md R49, 47_chip_tracker.md R273). -/
def State.Inv (s : State) : Prop :=
  s.mem.wf = true ∧
  (∀ e ∈ s.pending, e.frame = s.curFrame ∧ inWindow e.addr = true) ∧
  (∀ (k : Nat) (f : Frame), s.trace[k]? = some f → f.frameIndex = k ∧ ∀ e ∈ f.events, e.frame = k)

/-- Two states a program cannot tell apart: equal registers, flags, memory and cycle sum (20_memory.md R68). -/
def SameForProgram (s s' : State) : Prop :=
  s.a = s'.a ∧ s.x = s'.x ∧ s.y = s'.y ∧ s.sp = s'.sp ∧ s.pc = s'.pc ∧ s.flags = s'.flags ∧ s.mem = s'.mem ∧ s.used = s'.used

/-- The 105 undefined opcode bytes, as 30_encoding.md R108 lists them. -/
def undefinedOpcodes : List Byte :=
  [
    0x02, 0x03, 0x04, 0x07, 0x0B, 0x0C, 0x0F, 0x12, 0x13, 0x14, 0x17, 0x1A, 0x1B, 0x1C, 0x1F,
    0x22, 0x23, 0x27, 0x2B, 0x2F, 0x32, 0x33, 0x34, 0x37, 0x3A, 0x3B, 0x3C, 0x3F, 0x42, 0x43,
    0x44, 0x47, 0x4B, 0x4F, 0x52, 0x53, 0x54, 0x57, 0x5A, 0x5B, 0x5C, 0x5F, 0x62, 0x63, 0x64,
    0x67, 0x6B, 0x6F, 0x72, 0x73, 0x74, 0x77, 0x7A, 0x7B, 0x7C, 0x7F, 0x80, 0x82, 0x83, 0x87,
    0x89, 0x8B, 0x8F, 0x92, 0x93, 0x97, 0x9B, 0x9C, 0x9E, 0x9F, 0xA3, 0xA7, 0xAB, 0xAF, 0xB2,
    0xB3, 0xB7, 0xBB, 0xBF, 0xC2, 0xC3, 0xC7, 0xCB, 0xCF, 0xD2, 0xD3, 0xD4, 0xD7, 0xDA, 0xDB,
    0xDC, 0xDF, 0xE2, 0xE3, 0xE7, 0xEB, 0xEF, 0xF2, 0xF3, 0xF4, 0xF7, 0xFA, 0xFB, 0xFC, 0xFF ]

/-- The eight ADC and eight SBC opcodes (30_encoding.md R105). -/
def decimalOpcodes : List Byte :=
  [0x69, 0x65, 0x75, 0x6D, 0x7D, 0x79, 0x61, 0x71, 0xE9, 0xE5, 0xF5, 0xED, 0xFD, 0xF9, 0xE1, 0xF1]

/-- Which flags a mnemonic writes (10_state.md R37); `true` means written. -/
def flagsWritten (m : Mnemonic) : Flags :=
  match m with
  | .adc | .sbc =>
    ⟨true, true, false, false, true, true⟩
  | .and | .dec | .dex | .dey | .eor | .inc | .inx | .iny | .lda | .ldx | .ldy | .ora
  | .pla | .tax | .tay | .tsx | .txa | .tya =>
    ⟨true, false, false, false, true, false⟩
  | .asl | .cmp | .cpx | .cpy | .lsr | .rol | .ror =>
    ⟨true, false, false, false, true, true⟩
  | .bcc | .bcs | .beq | .bmi | .bne | .bpl | .bvc | .bvs | .jmp | .jsr | .nop | .pha
  | .php | .rts | .sta | .stx | .sty | .txs =>
    ⟨false, false, false, false, false, false⟩
  | .bit =>
    ⟨true, true, false, false, true, false⟩
  | .brk | .cli | .sei =>
    ⟨false, false, false, true, false, false⟩
  | .clc | .sec =>
    ⟨false, false, false, false, false, true⟩
  | .cld | .sed =>
    ⟨false, false, true, false, false, false⟩
  | .clv =>
    ⟨false, true, false, false, false, false⟩
  | .plp | .rti =>
    ⟨true, true, true, true, true, true⟩

/-- The cost table without its additions (70_reset_and_hazards.md R371); a branch not taken costs 2. -/
def baseCycles (m : Mnemonic) (mode : Mode) : Option Nat :=
  match m with
  | .adc | .and | .cmp | .eor | .lda | .ora | .sbc =>
    match mode with
    | .imm => some 2
    | .zp => some 3
    | .zpx | .abs | .abx | .aby => some 4
    | .izx => some 6
    | .izy => some 5
    | _ => none
  | .asl | .lsr | .rol | .ror =>
    match mode with
    | .acc => some 2
    | .zp => some 5
    | .zpx | .abs => some 6
    | .abx => some 7
    | _ => none
  | .bcc | .bcs | .beq | .bmi | .bne | .bpl | .bvc | .bvs =>
    match mode with
    | .rel => some 2
    | _ => none
  | .bit =>
    match mode with
    | .zp => some 3
    | .abs => some 4
    | _ => none
  | .brk =>
    match mode with
    | .imp => some 7
    | _ => none
  | .clc | .cld | .cli | .clv | .dex | .dey | .inx | .iny | .nop | .sec | .sed | .sei | .tax | .tay | .tsx | .txa | .txs | .tya =>
    match mode with
    | .imp => some 2
    | _ => none
  | .cpx | .cpy =>
    match mode with
    | .imm => some 2
    | .zp => some 3
    | .abs => some 4
    | _ => none
  | .dec | .inc =>
    match mode with
    | .zp => some 5
    | .zpx | .abs => some 6
    | .abx => some 7
    | _ => none
  | .jmp =>
    match mode with
    | .abs => some 3
    | .ind => some 5
    | _ => none
  | .jsr =>
    match mode with
    | .abs => some 6
    | _ => none
  | .ldx =>
    match mode with
    | .imm => some 2
    | .zp => some 3
    | .zpy | .abs | .aby => some 4
    | _ => none
  | .ldy =>
    match mode with
    | .imm => some 2
    | .zp => some 3
    | .zpx | .abs | .abx => some 4
    | _ => none
  | .pha | .php =>
    match mode with
    | .imp => some 3
    | _ => none
  | .pla | .plp =>
    match mode with
    | .imp => some 4
    | _ => none
  | .rti | .rts =>
    match mode with
    | .imp => some 6
    | _ => none
  | .sta =>
    match mode with
    | .zp => some 3
    | .zpx | .abs => some 4
    | .abx | .aby => some 5
    | .izx | .izy => some 6
    | _ => none
  | .stx =>
    match mode with
    | .zp => some 3
    | .zpy | .abs => some 4
    | _ => none
  | .sty =>
    match mode with
    | .zp => some 3
    | .zpx | .abs => some 4
    | _ => none

/-- The reads that pay a cycle for crossing a page (70_reset_and_hazards.md R371). -/
def paysPageCross : List Mnemonic := [.adc, .and, .cmp, .eor, .lda, .ldx, .ldy, .ora, .sbc]

/-- The operand byte `b1` of an instruction, 0 if it has none (30_encoding.md R101). -/
def operand8 (i : Instr) : Byte := (encode i).getD 1 0

/-- The operand address `b2, b1` of an instruction (30_encoding.md R101). -/
def operand16 (i : Instr) : Addr := word16 ((encode i).getD 2 0) ((encode i).getD 1 0)

/-- Whether a branch is taken (44_control_flow.md R214); false for an instruction that is none. -/
def branchTaken (m : Mnemonic) (f : Flags) : Bool :=
  match m with
  | .bpl => !f.n
  | .bmi => f.n
  | .bvc => !f.v
  | .bvs => f.v
  | .bcc => !f.c
  | .bcs => f.c
  | .bne => !f.z
  | .beq => f.z
  | _ => false

/-- The additions to the base cost (70_reset_and_hazards.md R371): `+p` of the indexed reads; 1 for a taken branch and 1 more for
another page. -/
def extraCycles (i : Instr) (s : State) : Nat :=
  match i.mode with
  | .abx => if i.mnemonic ∈ paysPageCross then pageCost (operand16 i) (operand16 i + zext16 s.x) else 0
  | .aby => if i.mnemonic ∈ paysPageCross then pageCost (operand16 i) (operand16 i + zext16 s.y) else 0
  | .izy =>
    if i.mnemonic ∈ paysPageCross then pageCost (zpPointer (operand8 i) s) (zpPointer (operand8 i) s + zext16 s.y) else 0
  | .rel =>
    if branchTaken i.mnemonic s.flags then 1 + pageCost (s.pc + 2) (s.pc + 2 + sext16 (operand8 i)) else 0
  | _ => 0

/-- The instructions that may load `PC` with something other than the next address (10_state.md R26). -/
def loadsPc : List Mnemonic :=
  [.jmp, .jsr, .rts, .rti, .brk, .bpl, .bmi, .bvc, .bvs, .bcc, .bcs, .bne, .beq]

/-- The mnemonics that write `A` in every form (10_state.md R21); ASL, LSR, ROL, ROR do so in their accumulator form. -/
def writesA : List Mnemonic := [.lda, .pla, .txa, .tya, .and, .ora, .eor, .adc, .sbc]

/-- The mnemonics that write `X` (10_state.md R22). -/
def writesX : List Mnemonic := [.ldx, .tax, .tsx, .inx, .dex]

/-- The mnemonics that write `Y` (10_state.md R23). -/
def writesY : List Mnemonic := [.ldy, .tay, .iny, .dey]

/-- The mnemonics that write `SP` (10_state.md R24). -/
def writesSp : List Mnemonic := [.txs, .pha, .php, .pla, .plp, .jsr, .rts, .brk, .rti]

/-- The mnemonics that write memory: stores, read-modify-write instructions, pushes (20_memory.md R74). -/
def writesMemory : List Mnemonic :=
  [.sta, .stx, .sty, .inc, .dec, .asl, .lsr, .rol, .ror, .pha, .php, .jsr, .brk]

/-- The tracker byte that each window offset 0 to 24 stands for (47_chip_tracker.md R264). -/
def chipField (off : Nat) (t : Tracker) : Byte :=
  match off with
  | 0 => t.voice1.freqLo
  | 1 => t.voice1.freqHi
  | 2 => t.voice1.pwLo
  | 3 => t.voice1.pwHi
  | 4 => t.voice1.ctrl
  | 5 => t.voice1.ad
  | 6 => t.voice1.sr
  | 7 => t.voice2.freqLo
  | 8 => t.voice2.freqHi
  | 9 => t.voice2.pwLo
  | 10 => t.voice2.pwHi
  | 11 => t.voice2.ctrl
  | 12 => t.voice2.ad
  | 13 => t.voice2.sr
  | 14 => t.voice3.freqLo
  | 15 => t.voice3.freqHi
  | 16 => t.voice3.pwLo
  | 17 => t.voice3.pwHi
  | 18 => t.voice3.ctrl
  | 19 => t.voice3.ad
  | 20 => t.voice3.sr
  | 21 => t.filt0
  | 22 => t.filt1
  | 23 => t.filt2
  | _ => t.filt3

/-- The value an event list last wrote to a chip register, or the value before it (47_chip_tracker.md R268, R269). -/
def lastWritten (addr : Addr) (events : List Event) (before : Byte) : Byte :=
  events.foldl (fun b e => if e.addr = addr then e.value else b) before

/-- The two-digit number that a byte of two decimal digits writes. -/
def decimalValue (v : Byte) : Nat := v.toNat / 0x10 * 10 + v.toNat % 0x10

/-- Both digits of a byte are decimal digits. -/
abbrev decimalDigits (v : Byte) : Prop := v.toNat / 0x10 ≤ 9 ∧ v.toNat % 0x10 ≤ 9

/-- The digit sum of a decimal ADC before the correction of its high digit (93_implementation_defined.md U3): the low digits with the
carry, a sum of 10 or more carried into the high digit, and the high digits. -/
def bcdSum (a m : Byte) (c : Bool) : Nat :=
  let low := a.toNat % 0x10 + m.toNat % 0x10 + c.toNat
  0x10 * (a.toNat / 0x10 + m.toNat / 0x10) + (if 10 ≤ low then 0x10 + (low + 6) % 0x10 else low)

/-- The digit difference of a decimal SBC before the correction of its high digit (93_implementation_defined.md U3). -/
def bcdDifference (a m : Byte) (c : Bool) : Int :=
  let low : Int := ((a.toNat % 0x10 : Nat) : Int) - ((m.toNat % 0x10 : Nat) : Int) - (1 - (c.toNat : Int))
  0x10 * (((a.toNat / 0x10 : Nat) : Int) - ((m.toNat / 0x10 : Nat) : Int)) +
    (if low < 0 then (low + 10) % 0x10 - 0x10 else low)

/-- `A` and N, V, Z, C from the result of an addition or subtraction (93_implementation_defined.md U3). -/
def State.takesAlu (s : State) (r : Alu) (length cycles : Nat) : Effect :=
  { s.seq length cycles with a := r.value, flags := { s.flags with n := r.n, v := r.v, z := r.z, c := r.c } }

/-- How many cycles a run result reports. -/
def RunResult.cycles (r : RunResult) : Nat :=
  match r with
  | .done used _ => used
  | .fault _ s => s.used
  | .refused _ s => s.used

end Sys2Proof.Machine
end

