-- ==== Sys2Proof/WellFormed.lean ====
section
/-! DEFINITION. Well-formedness. Every term of `Instr` is a legal instruction, because an operand of any value is accepted by every mode
(spec/30_encoding.md R109) and the operand types have exactly the operand's width; the checks with content are those on what the host
hands to a session. -/

namespace Sys2Proof

/-- "Operand bytes are never illegal" (30_encoding.md R109): no term of `Instr` is ill-formed. -/
def Instr.wf (_ : Instr) : Bool := true

/-- The payload ends inside the address space: `LOAD_ADDR + length(PAYLOAD) <= 0x10000` (70_reset_and_hazards.md R342). -/
def Launch.wf (l : Launch) : Bool := decide (l.loadAddr.toNat + l.payload.length ≤ 0x10000)

/-- `SENTINEL` "must not be 0x0000" (70_reset_and_hazards.md R347). -/
def Params.wf (p : Params) : Bool := p.sentinel != 0x0000

end Sys2Proof
end

