-- ==== Sys2Proof/Certificates/Slice0/Obligations.lean ====
section
/-! DEFINITION. The statements for the provers, each from the numbered rules of spec/ that OBLIGATIONS.json cites for it. `Completes`,
`Achieves` and the effects `State.loadsA` .. `State.branches` are in Sys2Proof/Safety.lean; in the statements about one
instruction `b` is the operand byte and `w` the operand address. -/

open Sys2Proof Sys2Proof.Machine

/-- LDA in all eight modes completes with A the operand, N and Z of it. Cites: R141. -/
def Obligations.LdaLoadsItsOperandIntoA : Prop :=
  ∀ (s : State) (b : Byte) (w : Addr),
    Completes (.ldaImm b) [0xA9, b] s (s.loadsA b 2 2) ∧
    Completes (.ldaZp b) [0xA5, b] s (s.loadsA (s.memRead (eaZp b)) 2 3) ∧
    Completes (.ldaZpx b) [0xB5, b] s (s.loadsA (s.memRead (eaZpx b s)) 2 4) ∧
    Completes (.ldaAbs w) [0xAD, lo8 w, hi8 w] s (s.loadsA (s.memRead w) 3 4) ∧
    Completes (.ldaAbx w) [0xBD, lo8 w, hi8 w] s (s.loadsA (s.memRead (eaAbx w s)) 3 (4 + pageCost w (eaAbx w s))) ∧
    Completes (.ldaAby w) [0xB9, lo8 w, hi8 w] s (s.loadsA (s.memRead (eaAby w s)) 3 (4 + pageCost w (eaAby w s))) ∧
    Completes (.ldaIzx b) [0xA1, b] s (s.loadsA (s.memRead (eaIzx b s)) 2 6) ∧
    Completes (.ldaIzy b) [0xB1, b] s (s.loadsA (s.memRead (eaIzy b s)) 2 (5 + pageCost (zpPointer b s) (eaIzy b s)))

/-- LDX and LDY in all modes complete with X or Y the operand, N and Z of it. Cites: R142, R143. -/
def Obligations.LdxAndLdyLoadTheirOperand : Prop :=
  ∀ (s : State) (b : Byte) (w : Addr),
    Completes (.ldxImm b) [0xA2, b] s (s.loadsX b 2 2) ∧
    Completes (.ldxZp b) [0xA6, b] s (s.loadsX (s.memRead (eaZp b)) 2 3) ∧
    Completes (.ldxZpy b) [0xB6, b] s (s.loadsX (s.memRead (eaZpy b s)) 2 4) ∧
    Completes (.ldxAbs w) [0xAE, lo8 w, hi8 w] s (s.loadsX (s.memRead w) 3 4) ∧
    Completes (.ldxAby w) [0xBE, lo8 w, hi8 w] s (s.loadsX (s.memRead (eaAby w s)) 3 (4 + pageCost w (eaAby w s))) ∧
    Completes (.ldyImm b) [0xA0, b] s (s.loadsY b 2 2) ∧
    Completes (.ldyZp b) [0xA4, b] s (s.loadsY (s.memRead (eaZp b)) 2 3) ∧
    Completes (.ldyZpx b) [0xB4, b] s (s.loadsY (s.memRead (eaZpx b s)) 2 4) ∧
    Completes (.ldyAbs w) [0xAC, lo8 w, hi8 w] s (s.loadsY (s.memRead w) 3 4) ∧
    Completes (.ldyAbx w) [0xBC, lo8 w, hi8 w] s (s.loadsY (s.memRead (eaAbx w s)) 3 (4 + pageCost w (eaAbx w s)))

/-- STA, STX, STY in all modes complete, storing one byte at the effective address. Cites: R144, R145, R146. -/
def Obligations.StoresWriteOneByteAtTheirAddress : Prop :=
  ∀ (s : State) (b : Byte) (w : Addr),
    Completes (.staZp b) [0x85, b] s (s.stores (eaZp b) s.a 2 3) ∧
    Completes (.staZpx b) [0x95, b] s (s.stores (eaZpx b s) s.a 2 4) ∧
    Completes (.staAbs w) [0x8D, lo8 w, hi8 w] s (s.stores w s.a 3 4) ∧
    Completes (.staAbx w) [0x9D, lo8 w, hi8 w] s (s.stores (eaAbx w s) s.a 3 5) ∧
    Completes (.staAby w) [0x99, lo8 w, hi8 w] s (s.stores (eaAby w s) s.a 3 5) ∧
    Completes (.staIzx b) [0x81, b] s (s.stores (eaIzx b s) s.a 2 6) ∧
    Completes (.staIzy b) [0x91, b] s (s.stores (eaIzy b s) s.a 2 6) ∧
    Completes (.stxZp b) [0x86, b] s (s.stores (eaZp b) s.x 2 3) ∧
    Completes (.stxZpy b) [0x96, b] s (s.stores (eaZpy b s) s.x 2 4) ∧
    Completes (.stxAbs w) [0x8E, lo8 w, hi8 w] s (s.stores w s.x 3 4) ∧
    Completes (.styZp b) [0x84, b] s (s.stores (eaZp b) s.y 2 3) ∧
    Completes (.styZpx b) [0x94, b] s (s.stores (eaZpx b s) s.y 2 4) ∧
    Completes (.styAbs w) [0x8C, lo8 w, hi8 w] s (s.stores w s.y 3 4)

/-- TAX, TAY, TXA, TYA, TSX, TXS complete with the register copied; TXS alone leaves N and Z. Cites: R147, R148, R149, R150, R151,
R152. -/
def Obligations.TransfersCopyARegister : Prop :=
  ∀ s : State,
    Completes .tax [0xAA] s (s.loadsX s.a 1 2) ∧
    Completes .tay [0xA8] s (s.loadsY s.a 1 2) ∧
    Completes .txa [0x8A] s (s.loadsA s.x 1 2) ∧
    Completes .tya [0x98] s (s.loadsA s.y 1 2) ∧
    Completes .tsx [0xBA] s (s.loadsX s.sp 1 2) ∧
    Completes .txs [0x9A] s ({ s.seq 1 2 with sp := s.x })

/-- PHA and PHP complete: the byte goes to 0x0100 | SP, then SP goes down by one. Cites: R162, R163. -/
def Obligations.PushesStoreAtTheStackPointer : Prop :=
  ∀ s : State,
    Completes .pha [0x48] s (s.pushes s.a 1 3) ∧
    Completes .php [0x08] s (s.pushes (statusByte s.flags) 1 3)

/-- PLA and PLP complete: SP goes up by one, then the byte there is A or the six flags. Cites: R164, R165. -/
def Obligations.PullsReadAboveTheStackPointer : Prop :=
  ∀ s : State,
    Completes .pla [0x68] s { s.loadsA (s.memRead (stackAddr (s.sp + 1))) 1 4 with sp := s.sp + 1 } ∧
    Completes .plp [0x28] s { s.sets (flagsOfByte (s.memRead (stackAddr (s.sp + 1)))) 1 4 with sp := s.sp + 1 }

/-- AND, ORA, EOR in all 24 forms complete with A combined with the operand, N and Z of it. Cites: R171, R172, R173. -/
def Obligations.LogicCombinesAWithTheOperand : Prop :=
  ∀ (s : State) (b : Byte) (w : Addr),
    Completes (.andImm b) [0x29, b] s (s.loadsA (s.a &&& b) 2 2) ∧
    Completes (.andZp b) [0x25, b] s (s.loadsA (s.a &&& (s.memRead (eaZp b))) 2 3) ∧
    Completes (.andZpx b) [0x35, b] s (s.loadsA (s.a &&& (s.memRead (eaZpx b s))) 2 4) ∧
    Completes (.andAbs w) [0x2D, lo8 w, hi8 w] s (s.loadsA (s.a &&& (s.memRead w)) 3 4) ∧
    Completes (.andAbx w) [0x3D, lo8 w, hi8 w] s (s.loadsA (s.a &&& (s.memRead (eaAbx w s))) 3 (4 + pageCost w (eaAbx w s))) ∧
    Completes (.andAby w) [0x39, lo8 w, hi8 w] s (s.loadsA (s.a &&& (s.memRead (eaAby w s))) 3 (4 + pageCost w (eaAby w s))) ∧
    Completes (.andIzx b) [0x21, b] s (s.loadsA (s.a &&& (s.memRead (eaIzx b s))) 2 6) ∧
    Completes (.andIzy b) [0x31, b] s (s.loadsA (s.a &&& (s.memRead (eaIzy b s))) 2 (5 + pageCost (zpPointer b s) (eaIzy b s))) ∧
    Completes (.oraImm b) [0x09, b] s (s.loadsA (s.a ||| b) 2 2) ∧
    Completes (.oraZp b) [0x05, b] s (s.loadsA (s.a ||| (s.memRead (eaZp b))) 2 3) ∧
    Completes (.oraZpx b) [0x15, b] s (s.loadsA (s.a ||| (s.memRead (eaZpx b s))) 2 4) ∧
    Completes (.oraAbs w) [0x0D, lo8 w, hi8 w] s (s.loadsA (s.a ||| (s.memRead w)) 3 4) ∧
    Completes (.oraAbx w) [0x1D, lo8 w, hi8 w] s (s.loadsA (s.a ||| (s.memRead (eaAbx w s))) 3 (4 + pageCost w (eaAbx w s))) ∧
    Completes (.oraAby w) [0x19, lo8 w, hi8 w] s (s.loadsA (s.a ||| (s.memRead (eaAby w s))) 3 (4 + pageCost w (eaAby w s))) ∧
    Completes (.oraIzx b) [0x01, b] s (s.loadsA (s.a ||| (s.memRead (eaIzx b s))) 2 6) ∧
    Completes (.oraIzy b) [0x11, b] s (s.loadsA (s.a ||| (s.memRead (eaIzy b s))) 2 (5 + pageCost (zpPointer b s) (eaIzy b s))) ∧
    Completes (.eorImm b) [0x49, b] s (s.loadsA (s.a ^^^ b) 2 2) ∧
    Completes (.eorZp b) [0x45, b] s (s.loadsA (s.a ^^^ (s.memRead (eaZp b))) 2 3) ∧
    Completes (.eorZpx b) [0x55, b] s (s.loadsA (s.a ^^^ (s.memRead (eaZpx b s))) 2 4) ∧
    Completes (.eorAbs w) [0x4D, lo8 w, hi8 w] s (s.loadsA (s.a ^^^ (s.memRead w)) 3 4) ∧
    Completes (.eorAbx w) [0x5D, lo8 w, hi8 w] s (s.loadsA (s.a ^^^ (s.memRead (eaAbx w s))) 3 (4 + pageCost w (eaAbx w s))) ∧
    Completes (.eorAby w) [0x59, lo8 w, hi8 w] s (s.loadsA (s.a ^^^ (s.memRead (eaAby w s))) 3 (4 + pageCost w (eaAby w s))) ∧
    Completes (.eorIzx b) [0x41, b] s (s.loadsA (s.a ^^^ (s.memRead (eaIzx b s))) 2 6) ∧
    Completes (.eorIzy b) [0x51, b] s (s.loadsA (s.a ^^^ (s.memRead (eaIzy b s))) 2 (5 + pageCost (zpPointer b s) (eaIzy b s)))

/-- BIT in both forms completes: Z of A & M, N and V from bits 7 and 6 of M, A unchanged. Cites: R174. -/
def Obligations.BitTestsMemoryAgainstA : Prop :=
  ∀ (s : State) (b : Byte) (w : Addr),
    Completes (.bitZp b) [0x24, b] s (s.tests (s.memRead (eaZp b)) 2 3) ∧
    Completes (.bitAbs w) [0x2C, lo8 w, hi8 w] s (s.tests (s.memRead w) 3 4)

/-- ADC in all forms: with D = 0 it completes with A + M + C and its flags; with D = 1 it faults. Cites: R176. -/
def Obligations.AdcAddsInBinaryOrFaultsInDecimalMode : Prop :=
  ∀ (s : State) (b : Byte) (w : Addr),
    (s.flags.d = false →
      Completes (.adcImm b) [0x69, b] s (s.adds b 2 2) ∧
      Completes (.adcZp b) [0x65, b] s (s.adds (s.memRead (eaZp b)) 2 3) ∧
      Completes (.adcZpx b) [0x75, b] s (s.adds (s.memRead (eaZpx b s)) 2 4) ∧
      Completes (.adcAbs w) [0x6D, lo8 w, hi8 w] s (s.adds (s.memRead w) 3 4) ∧
      Completes (.adcAbx w) [0x7D, lo8 w, hi8 w] s (s.adds (s.memRead (eaAbx w s)) 3 (4 + pageCost w (eaAbx w s))) ∧
      Completes (.adcAby w) [0x79, lo8 w, hi8 w] s (s.adds (s.memRead (eaAby w s)) 3 (4 + pageCost w (eaAby w s))) ∧
      Completes (.adcIzx b) [0x61, b] s (s.adds (s.memRead (eaIzx b s)) 2 6) ∧
      Completes (.adcIzy b) [0x71, b] s (s.adds (s.memRead (eaIzy b s)) 2 (5 + pageCost (zpPointer b s) (eaIzy b s)))) ∧
    (s.flags.d = true →
      exec (.adcImm b) s = .fault (.unsupportedOpcode s.pc (s.memRead s.pc)) ∧
      exec (.adcZp b) s = .fault (.unsupportedOpcode s.pc (s.memRead s.pc)) ∧
      exec (.adcZpx b) s = .fault (.unsupportedOpcode s.pc (s.memRead s.pc)) ∧
      exec (.adcAbs w) s = .fault (.unsupportedOpcode s.pc (s.memRead s.pc)) ∧
      exec (.adcAbx w) s = .fault (.unsupportedOpcode s.pc (s.memRead s.pc)) ∧
      exec (.adcAby w) s = .fault (.unsupportedOpcode s.pc (s.memRead s.pc)) ∧
      exec (.adcIzx b) s = .fault (.unsupportedOpcode s.pc (s.memRead s.pc)) ∧
      exec (.adcIzy b) s = .fault (.unsupportedOpcode s.pc (s.memRead s.pc)))

/-- SBC in all forms: with D = 0 it completes with A - M - (1 - C) and its flags; with D = 1 it faults. Cites: R177,
42_logic_arith.md. -/
def Obligations.SbcSubtractsInBinaryOrFaultsInDecimalMode : Prop :=
  ∀ (s : State) (b : Byte) (w : Addr),
    (s.flags.d = false →
      Completes (.sbcImm b) [0xE9, b] s (s.subtracts b 2 2) ∧
      Completes (.sbcZp b) [0xE5, b] s (s.subtracts (s.memRead (eaZp b)) 2 3) ∧
      Completes (.sbcZpx b) [0xF5, b] s (s.subtracts (s.memRead (eaZpx b s)) 2 4) ∧
      Completes (.sbcAbs w) [0xED, lo8 w, hi8 w] s (s.subtracts (s.memRead w) 3 4) ∧
      Completes (.sbcAbx w) [0xFD, lo8 w, hi8 w] s (s.subtracts (s.memRead (eaAbx w s)) 3 (4 + pageCost w (eaAbx w s))) ∧
      Completes (.sbcAby w) [0xF9, lo8 w, hi8 w] s (s.subtracts (s.memRead (eaAby w s)) 3 (4 + pageCost w (eaAby w s))) ∧
      Completes (.sbcIzx b) [0xE1, b] s (s.subtracts (s.memRead (eaIzx b s)) 2 6) ∧
      Completes (.sbcIzy b) [0xF1, b] s (s.subtracts (s.memRead (eaIzy b s)) 2 (5 + pageCost (zpPointer b s) (eaIzy b s)))) ∧
    (s.flags.d = true →
      exec (.sbcImm b) s = .fault (.unsupportedOpcode s.pc (s.memRead s.pc)) ∧
      exec (.sbcZp b) s = .fault (.unsupportedOpcode s.pc (s.memRead s.pc)) ∧
      exec (.sbcZpx b) s = .fault (.unsupportedOpcode s.pc (s.memRead s.pc)) ∧
      exec (.sbcAbs w) s = .fault (.unsupportedOpcode s.pc (s.memRead s.pc)) ∧
      exec (.sbcAbx w) s = .fault (.unsupportedOpcode s.pc (s.memRead s.pc)) ∧
      exec (.sbcAby w) s = .fault (.unsupportedOpcode s.pc (s.memRead s.pc)) ∧
      exec (.sbcIzx b) s = .fault (.unsupportedOpcode s.pc (s.memRead s.pc)) ∧
      exec (.sbcIzy b) s = .fault (.unsupportedOpcode s.pc (s.memRead s.pc)))

/-- With D = 1 every ADC and SBC faults and every other instruction completes. Cites: R178 (its DECIMAL_POLICY = fault part), R301. -/
def Obligations.DecimalModeStopsOnlyAdcAndSbc : Prop :=
  ∀ (i : Instr) (s : State), s.flags.d = true →
    ((i.mnemonic = .adc ∨ i.mnemonic = .sbc) → exec i s = .fault (.unsupportedOpcode s.pc (s.memRead s.pc))) ∧
    (¬(i.mnemonic = .adc ∨ i.mnemonic = .sbc) → ∃ t, exec i s = .next t)

/-- CMP, CPX, CPY in all 14 forms complete, setting N and Z of the difference and C, and nothing else. Cites: R179, R180, R181. -/
def Obligations.ComparesSetOnlyNZC : Prop :=
  ∀ (s : State) (b : Byte) (w : Addr),
    Completes (.cmpImm b) [0xC9, b] s (s.compares s.a b 2 2) ∧
    Completes (.cmpZp b) [0xC5, b] s (s.compares s.a (s.memRead (eaZp b)) 2 3) ∧
    Completes (.cmpZpx b) [0xD5, b] s (s.compares s.a (s.memRead (eaZpx b s)) 2 4) ∧
    Completes (.cmpAbs w) [0xCD, lo8 w, hi8 w] s (s.compares s.a (s.memRead w) 3 4) ∧
    Completes (.cmpAbx w) [0xDD, lo8 w, hi8 w] s (s.compares s.a (s.memRead (eaAbx w s)) 3 (4 + pageCost w (eaAbx w s))) ∧
    Completes (.cmpAby w) [0xD9, lo8 w, hi8 w] s (s.compares s.a (s.memRead (eaAby w s)) 3 (4 + pageCost w (eaAby w s))) ∧
    Completes (.cmpIzx b) [0xC1, b] s (s.compares s.a (s.memRead (eaIzx b s)) 2 6) ∧
    Completes (.cmpIzy b) [0xD1, b] s (s.compares s.a (s.memRead (eaIzy b s)) 2 (5 + pageCost (zpPointer b s) (eaIzy b s))) ∧
    Completes (.cpxImm b) [0xE0, b] s (s.compares s.x b 2 2) ∧
    Completes (.cpxZp b) [0xE4, b] s (s.compares s.x (s.memRead (eaZp b)) 2 3) ∧
    Completes (.cpxAbs w) [0xEC, lo8 w, hi8 w] s (s.compares s.x (s.memRead w) 3 4) ∧
    Completes (.cpyImm b) [0xC0, b] s (s.compares s.y b 2 2) ∧
    Completes (.cpyZp b) [0xC4, b] s (s.compares s.y (s.memRead (eaZp b)) 2 3) ∧
    Completes (.cpyAbs w) [0xCC, lo8 w, hi8 w] s (s.compares s.y (s.memRead w) 3 4)

/-- INC and DEC in all eight forms complete: one byte written back, N and Z of it, C and V unchanged. Cites: R191, R192. -/
def Obligations.IncAndDecModifyMemoryOnce : Prop :=
  ∀ (s : State) (b : Byte) (w : Addr),
    Completes (.incZp b) [0xE6, b] s (s.modifies (eaZp b) (s.memRead (eaZp b) + 1) 2 5) ∧
    Completes (.incZpx b) [0xF6, b] s (s.modifies (eaZpx b s) (s.memRead (eaZpx b s) + 1) 2 6) ∧
    Completes (.incAbs w) [0xEE, lo8 w, hi8 w] s (s.modifies w (s.memRead w + 1) 3 6) ∧
    Completes (.incAbx w) [0xFE, lo8 w, hi8 w] s (s.modifies (eaAbx w s) (s.memRead (eaAbx w s) + 1) 3 7) ∧
    Completes (.decZp b) [0xC6, b] s (s.modifies (eaZp b) (s.memRead (eaZp b) - 1) 2 5) ∧
    Completes (.decZpx b) [0xD6, b] s (s.modifies (eaZpx b s) (s.memRead (eaZpx b s) - 1) 2 6) ∧
    Completes (.decAbs w) [0xCE, lo8 w, hi8 w] s (s.modifies w (s.memRead w - 1) 3 6) ∧
    Completes (.decAbx w) [0xDE, lo8 w, hi8 w] s (s.modifies (eaAbx w s) (s.memRead (eaAbx w s) - 1) 3 7)

/-- INX, INY, DEX, DEY complete with the register one more or one less modulo 256, N and Z of it. Cites: R193, R194, R195, R196. -/
def Obligations.IndexCountingWrapsAndSetsNZ : Prop :=
  ∀ s : State,
    Completes .inx [0xE8] s (s.loadsX (s.x + 1) 1 2) ∧
    Completes .iny [0xC8] s (s.loadsY (s.y + 1) 1 2) ∧
    Completes .dex [0xCA] s (s.loadsX (s.x - 1) 1 2) ∧
    Completes .dey [0x88] s (s.loadsY (s.y - 1) 1 2)

/-- ASL A, LSR A, ROL A, ROR A complete: A shifted by one bit, C the bit shifted out, N and Z of the result. Cites: R111,
43_inc_dec_shift.md. -/
def Obligations.ShiftsOfTheAccumulator : Prop :=
  ∀ s : State,
    Completes .aslAcc [0x0A] s (s.shiftsA aslRule) ∧
    Completes .lsrAcc [0x4A] s (s.shiftsA lsrRule) ∧
    Completes .rolAcc [0x2A] s (s.shiftsA rolRule) ∧
    Completes .rorAcc [0x6A] s (s.shiftsA rorRule)

/-- ASL, LSR, ROL, ROR on memory complete in all 16 forms: one byte shifted and written back once. Cites: R190, 43_inc_dec_shift.md. -/
def Obligations.ShiftsOfMemoryWriteOnce : Prop :=
  ∀ (s : State) (b : Byte) (w : Addr),
    Completes (.aslZp b) [0x06, b] s (s.shifts aslRule (eaZp b) 2 5) ∧
    Completes (.aslZpx b) [0x16, b] s (s.shifts aslRule (eaZpx b s) 2 6) ∧
    Completes (.aslAbs w) [0x0E, lo8 w, hi8 w] s (s.shifts aslRule w 3 6) ∧
    Completes (.aslAbx w) [0x1E, lo8 w, hi8 w] s (s.shifts aslRule (eaAbx w s) 3 7) ∧
    Completes (.lsrZp b) [0x46, b] s (s.shifts lsrRule (eaZp b) 2 5) ∧
    Completes (.lsrZpx b) [0x56, b] s (s.shifts lsrRule (eaZpx b s) 2 6) ∧
    Completes (.lsrAbs w) [0x4E, lo8 w, hi8 w] s (s.shifts lsrRule w 3 6) ∧
    Completes (.lsrAbx w) [0x5E, lo8 w, hi8 w] s (s.shifts lsrRule (eaAbx w s) 3 7) ∧
    Completes (.rolZp b) [0x26, b] s (s.shifts rolRule (eaZp b) 2 5) ∧
    Completes (.rolZpx b) [0x36, b] s (s.shifts rolRule (eaZpx b s) 2 6) ∧
    Completes (.rolAbs w) [0x2E, lo8 w, hi8 w] s (s.shifts rolRule w 3 6) ∧
    Completes (.rolAbx w) [0x3E, lo8 w, hi8 w] s (s.shifts rolRule (eaAbx w s) 3 7) ∧
    Completes (.rorZp b) [0x66, b] s (s.shifts rorRule (eaZp b) 2 5) ∧
    Completes (.rorZpx b) [0x76, b] s (s.shifts rorRule (eaZpx b s) 2 6) ∧
    Completes (.rorAbs w) [0x6E, lo8 w, hi8 w] s (s.shifts rorRule w 3 6) ∧
    Completes (.rorAbx w) [0x7E, lo8 w, hi8 w] s (s.shifts rorRule (eaAbx w s) 3 7)

/-- JMP absolute and JMP (indirect) complete with PC the target and nothing else changed. Cites: R211. -/
def Obligations.JmpGoesToItsTarget : Prop :=
  ∀ (s : State) (w : Addr),
    Completes (.jmpAbs w) [0x4C, lo8 w, hi8 w] s (s.jumps w 3) ∧
    Completes (.jmpInd w) [0x6C, lo8 w, hi8 w] s
      (s.jumps (word16 (s.memRead (BitVec.ofNat 16 (w.toNat / 0x100 * 0x100 + (w.toNat + 1) % 0x100))) (s.memRead w)) 5)

/-- JSR completes: pc + 2 pushed high byte first, SP down by two, PC the target. Cites: R212. -/
def Obligations.JsrPushesTheAddressOfItsLastByte : Prop :=
  ∀ (s : State) (w : Addr),
    Completes (.jsr w) [0x20, lo8 w, hi8 w] s
      { s.jumps w 6 with
        sp := s.sp - 2
        writes := [(stackAddr s.sp, hi8 (s.pc + 2)), (stackAddr (s.sp - 1), lo8 (s.pc + 2))] }

/-- RTS completes: PC one more than the pulled word, SP up by two. Cites: R213. -/
def Obligations.RtsReturnsToThePulledAddressPlusOne : Prop :=
  ∀ s : State,
    Completes .rts [0x60] s
      { s.jumps (word16 (s.memRead (stackAddr (s.sp + 2))) (s.memRead (stackAddr (s.sp + 1))) + 1) 6 with sp := s.sp + 2 }

/-- The eight branches complete, taken exactly when their flag says, at cost 2, 3 or 4. Cites: R214, R215, R216, R217, R218, R219,
R220, R221, R222. -/
def Obligations.BranchesGoWhereTheirFlagSays : Prop :=
  ∀ (s : State) (b : Byte),
    Completes (.bpl b) [0x10, b] s (s.branches (!s.flags.n) b) ∧
    Completes (.bmi b) [0x30, b] s (s.branches s.flags.n b) ∧
    Completes (.bvc b) [0x50, b] s (s.branches (!s.flags.v) b) ∧
    Completes (.bvs b) [0x70, b] s (s.branches s.flags.v b) ∧
    Completes (.bcc b) [0x90, b] s (s.branches (!s.flags.c) b) ∧
    Completes (.bcs b) [0xB0, b] s (s.branches s.flags.c b) ∧
    Completes (.bne b) [0xD0, b] s (s.branches (!s.flags.z) b) ∧
    Completes (.beq b) [0xF0, b] s (s.branches s.flags.z b)

/-- CLC, SEC, CLI, SEI, CLV, CLD, SED complete writing one flag; NOP completes writing nothing. Cites: R230, R231, R232, R233, R234,
R235, R236, R237. -/
def Obligations.FlagInstructionsWriteOneFlag : Prop :=
  ∀ s : State,
    Completes .clc [0x18] s (s.sets { s.flags with c := false } 1 2) ∧
    Completes .sec [0x38] s (s.sets { s.flags with c := true } 1 2) ∧
    Completes .cli [0x58] s (s.sets { s.flags with i := false } 1 2) ∧
    Completes .sei [0x78] s (s.sets { s.flags with i := true } 1 2) ∧
    Completes .clv [0xB8] s (s.sets { s.flags with v := false } 1 2) ∧
    Completes .cld [0xD8] s (s.sets { s.flags with d := false } 1 2) ∧
    Completes .sed [0xF8] s (s.sets { s.flags with d := true } 1 2) ∧
    Completes .nop [0xEA] s (s.seq 1 2)

/-- BRK completes: pc + 2 and the flags with B = 1 pushed, I set, PC from 0xFFFE and 0xFFFF. Cites: R245. -/
def Obligations.BrkTrapsThroughTheVector : Prop :=
  ∀ s : State,
    Completes .brk [0x00] s
      { s.jumps (word16 (s.memRead 0xFFFF) (s.memRead 0xFFFE)) 7 with
        sp := s.sp - 3
        flags := { s.flags with i := true }
        writes := [(stackAddr s.sp, hi8 (s.pc + 2)), (stackAddr (s.sp - 1), lo8 (s.pc + 2)),
          (stackAddr (s.sp - 2), statusByte s.flags)] }

/-- RTI completes: six flags from the first pulled byte, PC the next two, SP up by three. Cites: R246. -/
def Obligations.RtiRestoresFlagsAndProgramCounter : Prop :=
  ∀ s : State,
    Completes .rti [0x40] s
      { s.jumps (word16 (s.memRead (stackAddr (s.sp + 3))) (s.memRead (stackAddr (s.sp + 2)))) 6 with
        sp := s.sp + 3
        flags := flagsOfByte (s.memRead (stackAddr (s.sp + 1))) }

/-- Decode and encode agree: the bytes of any instruction, followed by any bytes, decode to it. Cites: R100, R101, R103, R104, R105. -/
def Obligations.DecodeOfEncodeIsTheInstruction : Prop :=
  ∀ (i : Instr) (rest : List Byte), decode (encode i ++ rest) = .ok i rest

/-- Whatever bytes decode to an instruction are that instruction's bytes and the rest. Cites: R104, R107. -/
def Obligations.EncodeOfDecodeIsTheBytes : Prop :=
  ∀ (bytes : List Byte) (i : Instr) (rest : List Byte), decode bytes = .ok i rest → bytes = encode i ++ rest

/-- The opcode bytes that decode to nothing are exactly the 105 that the spec lists. Cites: R107, R108 (its list of opcode bytes). -/
def Obligations.UndefinedOpcodesAreTheListed105 : Prop :=
  undefinedOpcodes.length = 105 ∧
  ∀ op b1 b2 : Byte,
    (op ∈ undefinedOpcodes → decode [op, b1, b2] = .rejected (.undefinedOpcode op)) ∧
    (op ∉ undefinedOpcodes → ∃ i rest, decode [op, b1, b2] = .ok i rest)

/-- Words written out from the spec decode to the instructions they stand for. Cites: R124 (its examples), R104. -/
def Obligations.SampleWordsDecodeAsTheSpecSays : Prop :=
  decode [0x18] = .ok .clc [] ∧
  decode [0x0A] = .ok .aslAcc [] ∧
  decode [0xA9, 0x10] = .ok (.ldaImm 0x10) [] ∧
  decode [0xA5, 0x10] = .ok (.ldaZp 0x10) [] ∧
  decode [0xB5, 0x10] = .ok (.ldaZpx 0x10) [] ∧
  decode [0xB6, 0x10] = .ok (.ldxZpy 0x10) [] ∧
  decode [0xAD, 0x34, 0x12] = .ok (.ldaAbs 0x1234) [] ∧
  decode [0xBD, 0x34, 0x12] = .ok (.ldaAbx 0x1234) [] ∧
  decode [0xB9, 0x34, 0x12] = .ok (.ldaAby 0x1234) [] ∧
  decode [0x6C, 0x34, 0x12] = .ok (.jmpInd 0x1234) [] ∧
  decode [0xA1, 0x10] = .ok (.ldaIzx 0x10) [] ∧
  decode [0xB1, 0x10] = .ok (.ldaIzy 0x10) [] ∧
  decode [0xD0, 0xF9] = .ok (.bne 0xF9) [] ∧
  decode [0x00] = .ok .brk []

/-- When the bytes at PC decode to an instruction, step is exec of it at the same state. Cites: R101, R345. -/
def Obligations.StepRunsTheDecodedInstruction : Prop :=
  ∀ (s : State) (i : Instr) (rest : List Byte),
    decode [s.memRead s.pc, s.memRead (s.pc + 1), s.memRead (s.pc + 2)] = .ok i rest → step s = exec i s

/-- step faults exactly on an undefined opcode or on ADC or SBC with D = 1, and else completes. Cites: R16, R301 (its two cases and
what it records), R108. -/
def Obligations.StepFaultsExactlyWhereListed : Prop :=
  ∀ s : State,
    ((s.memRead s.pc ∈ undefinedOpcodes ∨ (s.memRead s.pc ∈ decimalOpcodes ∧ s.flags.d = true)) →
      step s = .fault (.unsupportedOpcode s.pc (s.memRead s.pc))) ∧
    (¬(s.memRead s.pc ∈ undefinedOpcodes ∨ (s.memRead s.pc ∈ decimalOpcodes ∧ s.flags.d = true)) → ∃ t, step s = .next t)

/-- Zero-page indexing wraps inside page 0, absolute indexing wraps at 65536. Cites: R113, R114, R115, R117, R118. -/
def Obligations.ZeroPageAndIndexedAddressesWrap : Prop :=
  ∀ (s : State) (b : Byte) (w : Addr),
    (eaZp b).toNat = b.toNat ∧
    (eaZpx b s).toNat = (b.toNat + s.x.toNat) % 0x100 ∧
    (eaZpy b s).toNat = (b.toNat + s.y.toNat) % 0x100 ∧
    (eaAbx w s).toNat = (w.toNat + s.x.toNat) % 0x10000 ∧
    (eaAby w s).toNat = (w.toNat + s.y.toNat) % 0x10000 ∧
    (pxAbx w s = true ↔ (eaAbx w s).toNat / 0x100 ≠ w.toNat / 0x100) ∧
    (pxAby w s = true ↔ (eaAby w s).toNat / 0x100 ≠ w.toNat / 0x100)

/-- The pointers of (zp,X), (zp),Y and (ind) take their second byte from the same page. Cites: R119, R120, R121. -/
def Obligations.PointerModesWrapInsideTheirPage : Prop :=
  ∀ (s : State) (b : Byte) (w : Addr),
    (eaIzx b s).toNat =
      (s.mem.read ((b.toNat + s.x.toNat) % 0x100)).toNat +
        0x100 * (s.mem.read (((b.toNat + s.x.toNat) % 0x100 + 1) % 0x100)).toNat ∧
    (eaIzy b s).toNat =
      ((s.mem.read b.toNat).toNat + 0x100 * (s.mem.read ((b.toNat + 1) % 0x100)).toNat + s.y.toNat) % 0x10000 ∧
    (pxIzy b s = true ↔ (eaIzy b s).toNat / 0x100 ≠ (s.mem.read ((b.toNat + 1) % 0x100)).toNat) ∧
    (eaInd w s).toNat =
      (s.mem.read w.toNat).toNat + 0x100 * (s.mem.read (w.toNat / 0x100 * 0x100 + (w.toNat + 1) % 0x100)).toNat

/-- A branch target is pc + 2 plus the signed displacement, modulo 65536; px compares their pages. Cites: R122. -/
def Obligations.BranchTargetIsRelativeToTheNextInstruction : Prop :=
  ∀ (s : State) (b : Byte),
    ((branchTarget b s).toNat : Int) = ((s.pc.toNat : Int) + 2 + (if b.toNat < 0x80 then (b.toNat : Int) else (b.toNat : Int) - 0x100)) % 0x10000 ∧
    (crossed (branchNext s) (branchTarget b s) = true ↔
      (branchTarget b s).toNat / 0x100 ≠ (s.pc.toNat + 2) % 0x10000 / 0x100)

/-- MemWrite changes one byte and tells the tracker; a host write changes the byte and tells nobody. Cites: R64, R65, R73. -/
def Obligations.MemWriteStoresThenTellsTheTracker : Prop :=
  ∀ (s : State) (a : Addr) (v : Byte),
    (∀ b : Addr, (s.memWrite a v).memRead b = if b = a then v else s.memRead b) ∧
    (s.memWrite a v).tracker = (s.onWrite a v s.curFrame).tracker ∧
    (s.memWrite a v).pending = (s.onWrite a v s.curFrame).pending ∧
    s.memWrite a v =
      { s with
        mem := (s.memWrite a v).mem
        tracker := (s.memWrite a v).tracker
        pending := (s.memWrite a v).pending } ∧
    (∀ b : Addr, (s.hostWrite a v).memRead b = if b = a then v else s.memRead b) ∧
    s.hostWrite a v = { s with mem := (s.hostWrite a v).mem }

/-- on_write in the window appends one event and changes one stored byte; outside it changes nothing. Cites: R261, R262, R263. -/
def Obligations.OnWriteUpdatesExactlyOneChipByte : Prop :=
  ∀ (s : State) (a : Addr) (v : Byte) (frame : Nat),
    (¬(0xD400 ≤ a.toNat ∧ a.toNat ≤ 0xD418) → s.onWrite a v frame = s) ∧
    (0xD400 ≤ a.toNat ∧ a.toNat ≤ 0xD418 →
      (s.onWrite a v frame).pending = s.pending ++ [⟨frame, a, v⟩] ∧
      (∀ k < 25, chipField k (s.onWrite a v frame).tracker =
        if k = a.toNat - 0xD400 then v else chipField k s.tracker) ∧
      (s.onWrite a v frame).tracker.voice1.lastWrite =
        (if a.toNat - 0xD400 < 7 then some frame else s.tracker.voice1.lastWrite) ∧
      (s.onWrite a v frame).tracker.voice2.lastWrite =
        (if 7 ≤ a.toNat - 0xD400 ∧ a.toNat - 0xD400 < 14 then some frame else s.tracker.voice2.lastWrite) ∧
      (s.onWrite a v frame).tracker.voice3.lastWrite =
        (if 14 ≤ a.toNat - 0xD400 ∧ a.toNat - 0xD400 < 21 then some frame else s.tracker.voice3.lastWrite) ∧
      s.onWrite a v frame =
        { s with tracker := (s.onWrite a v frame).tracker, pending := (s.onWrite a v frame).pending })

/-- A 16-bit chip field resolves to its last written halves, in whatever order they were written. Cites: R268, R269. -/
def Obligations.SixteenBitFieldsResolveFromTheLastHalves : Prop :=
  ∀ (t : Tracker) (events : List Event),
    let u := replay t events
    (resolve u.voice1).frequency =
      word16 (lastWritten 0xD401 events t.voice1.freqHi) (lastWritten 0xD400 events t.voice1.freqLo) ∧
    (resolve u.voice2).frequency =
      word16 (lastWritten 0xD408 events t.voice2.freqHi) (lastWritten 0xD407 events t.voice2.freqLo) ∧
    (resolve u.voice3).frequency =
      word16 (lastWritten 0xD40F events t.voice3.freqHi) (lastWritten 0xD40E events t.voice3.freqLo) ∧
    (resolve u.voice1).pulseWidth.toNat =
      (lastWritten 0xD403 events t.voice1.pwHi).toNat % 0x10 * 0x100 + (lastWritten 0xD402 events t.voice1.pwLo).toNat ∧
    (resolve u.voice2).pulseWidth.toNat =
      (lastWritten 0xD40A events t.voice2.pwHi).toNat % 0x10 * 0x100 + (lastWritten 0xD409 events t.voice2.pwLo).toNat ∧
    (resolve u.voice3).pulseWidth.toNat =
      (lastWritten 0xD411 events t.voice3.pwHi).toNat % 0x10 * 0x100 + (lastWritten 0xD410 events t.voice3.pwLo).toNat

/-- Resolve gives the fields of a voice by unsigned value, dropping bits 7:4 of the pulse-width high byte. Cites: R270, R267. -/
def Obligations.ResolveSplitsTheStoredBytes : Prop :=
  ∀ vc : Voice,
    (resolve vc).frequency.toNat = 0x100 * vc.freqHi.toNat + vc.freqLo.toNat ∧
    (resolve vc).pulseWidth.toNat = 0x100 * (vc.pwHi.toNat % 0x10) + vc.pwLo.toNat ∧
    (resolve vc).control = vc.ctrl ∧
    (resolve vc).gate = decide (vc.ctrl.toNat % 2 = 1) ∧
    (resolve vc).attack.toNat = vc.ad.toNat / 0x10 ∧
    (resolve vc).decay.toNat = vc.ad.toNat % 0x10 ∧
    (resolve vc).sustain.toNat = vc.sr.toNat / 0x10 ∧
    (resolve vc).release.toNat = vc.sr.toNat % 0x10 ∧
    (resolve vc).lastWrite = vc.lastWrite

/-- Flush delivers the frame of the pending events and a snapshot, and empties pending (R271, R272). That the append to the Trace,
which R354 gives to the Frame Driver, is part of the same operation is the model's choice (log 5, DESIGN CHOICE). Cites: R271,
R272, R354 (its append). -/
def Obligations.FlushDeliversTheFrameAndEmptiesPending : Prop :=
  ∀ (k : Nat) (s : State),
    flush k s =
      { s with
        pending := []
        trace := s.trace ++
          [{ frameIndex := k
             events := s.pending
             snapshot :=
              { voice1 := resolve s.tracker.voice1
                voice2 := resolve s.tracker.voice2
                voice3 := resolve s.tracker.voice3
                shared := s.tracker.filt3
                filter := [s.tracker.filt0, s.tracker.filt1, s.tracker.filt2, s.tracker.filt3] } }] }

/-- A step appends window events of the current frame, and the tracker is their replay. Cites: R262, R263, R273, R274. -/
def Obligations.StepsOnlyAppendWindowEventsAndReplayThem : Prop :=
  ∀ s t : State, step s = .next t →
    ∃ events : List Event,
      t.pending = s.pending ++ events ∧
      t.tracker = replay s.tracker events ∧
      (∀ e ∈ events, e.frame = s.curFrame ∧ 0xD400 ≤ e.addr.toNat ∧ e.addr.toNat ≤ 0xD418) ∧
      t.curFrame = s.curFrame ∧ t.trace = s.trace

/-- The state after reset meets the invariant of a safe run and has an empty Trace and no pending event. Cites: R55, R340. -/
def Obligations.ResetMeetsTheInvariant : Prop :=
  State.reset.Inv ∧ State.reset.trace = [] ∧ State.reset.pending = [] ∧
  ∀ initA : Byte,
    (State.sessionReset initA).Inv ∧ (State.sessionReset initA).trace = [] ∧ (State.sessionReset initA).pending = []

/-- Every step from a state that meets the invariant gives a state that meets it. Cites: R49, R273, 20_memory.md R65. -/
def Obligations.EveryStepKeepsTheInvariant : Prop :=
  ∀ s t : State, s.Inv → step s = .next t → t.Inv

/-- The final state of every session, complete or failed, meets the invariant. Cites: R273, R354, R49. -/
def Obligations.SessionsMeetTheInvariant : Prop :=
  ∀ (p : Params) (l : Launch), (runSession p l).1.Inv

/-- A program cannot observe the tracker: states that differ only in it step alike. Cites: R48, R50, R63, R68. -/
def Obligations.ProgramsCannotObserveTheTracker : Prop :=
  ∀ s s' : State, SameForProgram s s' →
    (∀ t, step s = .next t → ∃ t', step s' = .next t' ∧ SameForProgram t t') ∧
    (∀ f, step s = .fault f → step s' = .fault f)

/-- An instruction changes only the flags that the flag matrix lists for its mnemonic. Cites: R37, R28. -/
def Obligations.FlagsChangeOnlyWhereTheMatrixSays : Prop :=
  ∀ (i : Instr) (s t : State), exec i s = .next t →
    ((flagsWritten i.mnemonic).n = false → t.flags.n = s.flags.n) ∧
    ((flagsWritten i.mnemonic).v = false → t.flags.v = s.flags.v) ∧
    ((flagsWritten i.mnemonic).d = false → t.flags.d = s.flags.d) ∧
    ((flagsWritten i.mnemonic).i = false → t.flags.i = s.flags.i) ∧
    ((flagsWritten i.mnemonic).z = false → t.flags.z = s.flags.z) ∧
    ((flagsWritten i.mnemonic).c = false → t.flags.c = s.flags.c)

/-- A, X, Y, SP and memory change only by the instructions that the spec lists as their writers. Cites: R21, R22, R23, R24, R74 (its
item 6), R144, R145, R146, R160, R190. -/
def Obligations.OnlyTheListedInstructionsWriteEachRegister : Prop :=
  ∀ (i : Instr) (s t : State), exec i s = .next t →
    (t.a ≠ s.a → i.mnemonic ∈ writesA ∨ i.mode = .acc) ∧
    (t.x ≠ s.x → i.mnemonic ∈ writesX) ∧
    (t.y ≠ s.y → i.mnemonic ∈ writesY) ∧
    (t.sp ≠ s.sp → i.mnemonic ∈ writesSp) ∧
    (∀ addr : Addr, t.memRead addr ≠ s.memRead addr → i.mnemonic ∈ writesMemory ∧ i.mode ≠ .acc)

/-- Every instruction but the control transfers moves PC by its length; a branch not taken moves it by 2. Cites: R26, R101. -/
def Obligations.SequentialInstructionsMoveToTheNextAddress : Prop :=
  ∀ (i : Instr) (s t : State), exec i s = .next t →
    (i.mnemonic ∉ loadsPc → t.pc = s.pc + BitVec.ofNat 16 (encode i).length) ∧
    (i.mode = .rel → branchTaken i.mnemonic s.flags = false → t.pc = s.pc + BitVec.ofNat 16 (encode i).length) ∧
    (encode i).length = i.length

/-- Every completed instruction costs what the cost table says for its mnemonic and mode, from 2 to 7. Cites: R371. -/
def Obligations.CyclesAreThoseOfTheCostTable : Prop :=
  ∀ (i : Instr) (s t : State), exec i s = .next t →
    ∃ base, baseCycles i.mnemonic i.mode = some base ∧
      t.used = s.used + base + extraCycles i s ∧ 2 ≤ base + extraCycles i s ∧ base + extraCycles i s ≤ 7

/-- PHP and a later PLP that finds the same stack restore all six flags and SP. Cites: R35, R36, R163, R165. -/
def Obligations.PhpThenPlpRestoresTheFlags : Prop :=
  ∀ s : State, ∃ t, exec .php s = .next t ∧
    ∀ u : State, u.sp = t.sp → u.memRead (stackAddr s.sp) = t.memRead (stackAddr s.sp) →
      ∃ r, exec .plp u = .next r ∧ r.flags = s.flags ∧ r.sp = s.sp

/-- JSR and a later RTS that finds the same stack resume at the address after the JSR. Cites: R212, R213. -/
def Obligations.RtsReturnsBehindItsJsr : Prop :=
  ∀ (s : State) (w : Addr), ∃ t, exec (.jsr w) s = .next t ∧ t.pc = w ∧
    ∀ u : State, u.sp = t.sp → u.memRead (stackAddr s.sp) = t.memRead (stackAddr s.sp) →
      u.memRead (stackAddr (s.sp - 1)) = t.memRead (stackAddr (s.sp - 1)) →
      ∃ r, exec .rts u = .next r ∧ r.pc = s.pc + 3 ∧ r.sp = s.sp

/-- BRK and a later RTI that finds the same stack resume at pc + 2 with the six flags from before. Cites: R245, R246, R310, R312. -/
def Obligations.RtiResumesTwoBehindItsBrk : Prop :=
  ∀ s : State, ∃ t, exec .brk s = .next t ∧ t.flags.i = true ∧
    ∀ u : State, u.sp = t.sp → u.memRead (stackAddr s.sp) = t.memRead (stackAddr s.sp) →
      u.memRead (stackAddr (s.sp - 1)) = t.memRead (stackAddr (s.sp - 1)) →
      u.memRead (stackAddr (s.sp - 2)) = t.memRead (stackAddr (s.sp - 2)) →
      ∃ r, exec .rti u = .next r ∧ r.pc = s.pc + 2 ∧ r.flags = s.flags ∧ r.sp = s.sp

/-- C and A give the exact sum or difference, and V says that the signed one leaves -128 to 127. Cites: R32, R175, R177. -/
def Obligations.ArithmeticIsExactAndVIsSignedOverflow : Prop :=
  ∀ (a m : Byte) (c : Bool),
    0x100 * (adcBinary a m c).c.toNat + (adcBinary a m c).value.toNat = a.toNat + m.toNat + c.toNat ∧
    ((adcBinary a m c).v = true ↔ (a.toInt + m.toInt + c.toNat < -128 ∨ 127 < a.toInt + m.toInt + c.toNat)) ∧
    ((sbcBinary a m c).value.toNat : Int) - 0x100 * (1 - ((sbcBinary a m c).c.toNat : Int)) =
      (a.toNat : Int) - m.toNat - (1 - (c.toNat : Int)) ∧
    ((sbcBinary a m c).v = true ↔
      (a.toInt - m.toInt - (1 - (c.toNat : Int)) < -128 ∨ 127 < a.toInt - m.toInt - (1 - (c.toNat : Int)))) ∧
    sbcBinary a m c = adcBinary a (m ^^^ 0xFF) c

/-- The two alternative decimal policies: binary ignores D, nmos_bcd is the decimal arithmetic of U3 on all bytes, with its flags.
Cites: 93_implementation_defined.md U3, R178 (its last sentence). -/
def Obligations.DecimalPolicyAlternativesWork : Prop :=
  (∀ (policy : DecimalPolicy) (length cycles : Nat) (m : Byte) (s : State), s.flags.d = false →
    adc policy length cycles m s = adc .fault length cycles m s ∧ sbc policy length cycles m s = sbc .fault length cycles m s) ∧
  (∀ (length cycles : Nat) (m : Byte) (s : State), s.flags.d = true →
    (∃ t u, adc .binary length cycles m s = .next t ∧
      adc .fault length cycles m (s.setFlags { s.flags with d := false }) = .next u ∧
      t = u.setFlags { u.flags with d := true }) ∧
    (∃ t u, sbc .binary length cycles m s = .next t ∧
      sbc .fault length cycles m (s.setFlags { s.flags with d := false }) = .next u ∧
      t = u.setFlags { u.flags with d := true }) ∧
    (∃ t, adc .nmosBcd length cycles m s = .next t ∧
      Achieves s t (s.takesAlu (adcNmosBcd s.a m s.flags.c) length cycles)) ∧
    (∃ t, sbc .nmosBcd length cycles m s = .next t ∧
      Achieves s t (s.takesAlu (sbcNmosBcd s.a m s.flags.c) length cycles))) ∧
  (∀ (a m : Byte) (c : Bool),
    (adcNmosBcd a m c).n = decide (bcdSum a m c / 0x80 % 2 = 1) ∧
    (adcNmosBcd a m c).v = ((negative a == negative m) && (decide (bcdSum a m c / 0x80 % 2 = 1) != negative a)) ∧
    (adcNmosBcd a m c).z = decide ((a.toNat + m.toNat + c.toNat) % 0x100 = 0) ∧
    (adcNmosBcd a m c).c = decide (0xA0 ≤ bcdSum a m c) ∧
    (adcNmosBcd a m c).value.toNat = (if 0xA0 ≤ bcdSum a m c then bcdSum a m c + 0x60 else bcdSum a m c) % 0x100 ∧
    (sbcNmosBcd a m c).n = (sbcBinary a m c).n ∧ (sbcNmosBcd a m c).v = (sbcBinary a m c).v ∧
    (sbcNmosBcd a m c).z = (sbcBinary a m c).z ∧ (sbcNmosBcd a m c).c = (sbcBinary a m c).c ∧
    ((sbcNmosBcd a m c).value.toNat : Int) =
      (if bcdDifference a m c < 0 then bcdDifference a m c - 0x60 else bcdDifference a m c) % 0x100) ∧
  (∀ (a m : Byte) (c : Bool), decimalDigits a → decimalDigits m →
    decimalDigits (adcNmosBcd a m c).value ∧
    decimalValue (adcNmosBcd a m c).value = (decimalValue a + decimalValue m + c.toNat) % 100 ∧
    ((adcNmosBcd a m c).c = true ↔ 100 ≤ decimalValue a + decimalValue m + c.toNat) ∧
    decimalDigits (sbcNmosBcd a m c).value ∧
    decimalValue (sbcNmosBcd a m c).value = (decimalValue a + 100 - decimalValue m - (1 - c.toNat)) % 100 ∧
    ((sbcNmosBcd a m c).c = true ↔ decimalValue m + (1 - c.toNat) ≤ decimalValue a))

/-- The session reset leaves every register, flag, byte and tracker field at the value of the reset table. The values are no rule of
the document: 10_state.md R55 says "The values below are the spec's own choice". Cites: 10_state.md (the reset table, which the
spec calls its own choice), 92_eei_decisions.md D5, D6, D18, D19. -/
def Obligations.SessionResetLeavesTheTableOfValues : Prop :=
  ∀ initA : Byte,
    let s := State.sessionReset initA
    s.a = initA ∧ s.x = 0x00 ∧ s.y = 0x00 ∧ s.sp = 0xFF ∧ s.pc = 0x0000 ∧
    s.flags = ⟨false, false, false, false, false, false⟩ ∧
    (∀ addr : Addr, s.memRead addr = 0x00) ∧
    (∀ k < 25, chipField k s.tracker = 0x00) ∧
    s.tracker.voice1.lastWrite = none ∧ s.tracker.voice2.lastWrite = none ∧ s.tracker.voice3.lastWrite = none ∧
    s.pending = [] ∧ s.curFrame = 0 ∧ s.trace = []

/-- The Loader splits the file as the spec says and fails exactly when the header is short or the end overflows. Cites: R342. -/
def Obligations.LoaderAcceptsExactlyWhatFits : Prop :=
  ∀ (file : List Byte) (o : Overrides) (n : Nat),
    (o.loadAddr = none → file.length < 2 → load file o n = .error .formatError) ∧
    (∀ (addr : Addr) (payload : List Byte),
      ((o.loadAddr = some addr ∧ payload = file) ∨
        (o.loadAddr = none ∧ ∃ lo hi : Byte, file = lo :: hi :: payload ∧ addr.toNat = lo.toNat + 0x100 * hi.toNat)) →
      (0x10000 < addr.toNat + payload.length → load file o n = .error .formatError) ∧
      (addr.toNat + payload.length ≤ 0x10000 →
        load file o n = .ok ⟨addr, payload, o.initAddr.getD addr, o.playAddr.getD addr, n⟩)) ∧
    (load file o n = .error .formatError → ∀ p : Params, capture p file o n = .error .formatError)

/-- A session opens with the payload at its addresses, 0x00 everywhere else, and no event. Cites: R343. -/
def Obligations.PlacementPutsThePayloadAndNothingElse : Prop :=
  ∀ (p : Params) (l : Launch), l.wf = true →
    (∀ addr : Addr, (openSession p l).memRead addr =
      if l.loadAddr.toNat ≤ addr.toNat ∧ addr.toNat < l.loadAddr.toNat + l.payload.length then
        l.payload.getD (addr.toNat - l.loadAddr.toNat) 0x00
      else 0x00) ∧
    openSession p l = { State.sessionReset p.initA with mem := (openSession p l).mem }

/-- Call is run_until from a state with the sentinel return planted, up to PC = SENTINEL, where an RTS there lands. Cites: R347, R213. -/
def Obligations.CallPlantsAReturnToTheSentinel : Prop :=
  ∀ (p : Params) (entry : Addr) (ceiling : Nat) (s : State),
    let t := enterRoutine p entry s
    call p entry ceiling s = runUntil (returned p) ceiling t ∧
    (∀ u : State, returned p u = true ↔ u.pc = p.sentinel) ∧
    t.pc = entry ∧ t.sp = 0xFD ∧
    (∀ addr : Addr, t.memRead addr =
      if addr = 0x01FE then lo8 (p.sentinel - 1) else if addr = 0x01FF then hi8 (p.sentinel - 1) else s.memRead addr) ∧
    t = { s with pc := entry, sp := 0xFD, mem := t.mem } ∧
    ∃ u, exec .rts t = .next u ∧ u.pc = p.sentinel ∧ u.sp = 0xFF

/-- run_until is its loop: predicate, then ceiling, then one step, with no bound on the steps showing. Cites: R346 (its loop), R372,
R306. -/
def Obligations.RunUntilFollowsItsLoop : Prop :=
  ∀ (cond : State → Bool) (ceiling : Nat) (s : State),
    runUntil cond ceiling s = runLoop cond ceiling (maxSteps ceiling) { s with used := 0 } ∧
    runLoop cond ceiling (maxSteps ceiling) s =
      if cond s = true then .done s.used s
      else if ceiling < s.used then .fault (.infiniteLoopDetected s.pc (s.memRead s.pc) s.used) s
      else
        match step s with
        | .next t => runLoop cond ceiling (maxSteps ceiling) t
        | .fault f => .fault f s
        | .refused r => .refused r s

/-- A run that is given up has used more than the ceiling and at most seven cycles more. Cites: R302, R306, R346, R348. -/
def Obligations.RunsStopWithinSevenCyclesOfTheCeiling : Prop :=
  ∀ (cond : State → Bool) (ceiling : Nat) (s : State),
    (∀ used t, runUntil cond ceiling s = .done used t → cond t = true ∧ used = t.used ∧ used ≤ ceiling + 7) ∧
    (∀ pc op used t, runUntil cond ceiling s = .fault (.infiniteLoopDetected pc op used) t →
      cond t = false ∧ pc = t.pc ∧ op = t.memRead t.pc ∧ used = t.used ∧ ceiling < used ∧ used ≤ ceiling + 7) ∧
    (∀ pc op t, runUntil cond ceiling s = .fault (.unsupportedOpcode pc op) t →
      cond t = false ∧ pc = t.pc ∧ op = t.memRead t.pc ∧ t.used ≤ ceiling) ∧
    (∀ r t, runUntil cond ceiling s ≠ .refused r t)

/-- A capture delivers its N frames, or the frames before the failed call with its cause, frame index, pc and opcode. That a failing
init call with N = 0 gives the empty Trace, not fewer than N frames, is the model's choice (log 13, DESIGN CHOICE). Cites: R303,
R304, R352, R353, R354, R355, R356. -/
def Obligations.CapturesDeliverExactlyTheirFrames : Prop :=
  ∀ (p : Params) (l : Launch),
    ((captureLaunch p l).error = none → (captureLaunch p l).trace.length = l.frameCount) ∧
    (∀ e, (captureLaunch p l).error = some e →
      (captureLaunch p l).trace.length = e.frameIndex ∧ (0 < l.frameCount → e.frameIndex < l.frameCount)) ∧
    (∀ pc op s, call p l.initAddr p.initCeiling ((openSession p l).setFrame 0) = .fault (.unsupportedOpcode pc op) s →
      captureLaunch p l = ⟨[], some ⟨.unsupportedOpcode, 0, pc, op⟩⟩) ∧
    (∀ pc op used s,
      call p l.initAddr p.initCeiling ((openSession p l).setFrame 0) = .fault (.infiniteLoopDetected pc op used) s →
      captureLaunch p l = ⟨[], some ⟨.infiniteLoopDetected used, 0, pc, op⟩⟩) ∧
    (∀ used s, call p l.initAddr p.initCeiling ((openSession p l).setFrame 0) = .done used s →
      runSession p { l with frameCount := 0 } = (s, none)) ∧
    (∀ k s, k < l.frameCount → runSession p { l with frameCount := k } = (s, none) →
      (∀ pc op t, call p l.playAddr p.playCeiling (s.setFrame k) = .fault (.unsupportedOpcode pc op) t →
        captureLaunch p l = ⟨s.trace, some ⟨.unsupportedOpcode, k, pc, op⟩⟩) ∧
      (∀ pc op used t, call p l.playAddr p.playCeiling (s.setFrame k) = .fault (.infiniteLoopDetected pc op used) t →
        captureLaunch p l = ⟨s.trace, some ⟨.frameTimeout used, k, pc, op⟩⟩) ∧
      (∀ used t, call p l.playAddr p.playCeiling (s.setFrame k) = .done used t →
        runSession p { l with frameCount := k + 1 } = (flush k t, none)))

/-- Replaying all events up to frame k from the reset tracker gives frame k's snapshot. Cites: R273, R274, R352. -/
def Obligations.ReplayingEventsReconstructsEverySnapshot : Prop :=
  ∀ (p : Params) (l : Launch) (k : Nat) (f : Frame), (captureLaunch p l).trace[k]? = some f →
    f.snapshot = snapshot (replay Tracker.reset (((captureLaunch p l).trace.take (k + 1)).flatMap (fun g => g.events)))

/-- The Trace of a capture of fewer frames is a prefix of the Trace of a longer one. Cites: R358. -/
def Obligations.ShorterCapturesArePrefixes : Prop :=
  ∀ (p : Params) (l : Launch) (n m : Nat), n ≤ m →
    (captureLaunch p { l with frameCount := n }).trace = (captureLaunch p { l with frameCount := m }).trace.take n
end

