-- ==== Sys2Proof/Laws/Encoding.lean ====
section
/-! SUPPORT. Halves of a 16-bit value, extension of a byte, and the length of an encoding. -/

namespace Sys2Proof

/-- The unsigned value of a concatenation. -/
theorem word16_toNat (hi lo : Byte) : (word16 hi lo).toNat = hi.toNat * 0x100 + lo.toNat := by
  have hlo := lo.isLt
  simp only [word16, BitVec.toNat_append]
  rw [← Nat.shiftLeft_add_eq_or_of_lt hlo, Nat.shiftLeft_eq]

/-- The unsigned value of the low half. -/
theorem lo8_toNat (v : Addr) : (lo8 v).toNat = v.toNat % 0x100 := by
  simp [lo8, BitVec.extractLsb'_toNat]

/-- The unsigned value of the high half. -/
theorem hi8_toNat (v : Addr) : (hi8 v).toNat = v.toNat / 0x100 := by
  have hv := v.isLt
  simp only [hi8, BitVec.extractLsb'_toNat, Nat.shiftRight_eq_div_pow]
  omega

/-- A value is the concatenation of its halves. -/
@[simp] theorem word16_hi8_lo8 (v : Addr) : word16 (hi8 v) (lo8 v) = v := by
  apply BitVec.eq_of_toNat_eq
  rw [word16_toNat, hi8_toNat, lo8_toNat]
  omega

@[simp] theorem lo8_word16 (hi lo : Byte) : lo8 (word16 hi lo) = lo := by
  apply BitVec.eq_of_toNat_eq
  have hlo := lo.isLt
  rw [lo8_toNat, word16_toNat]
  omega

@[simp] theorem hi8_word16 (hi lo : Byte) : hi8 (word16 hi lo) = hi := by
  apply BitVec.eq_of_toNat_eq
  have hlo := lo.isLt
  rw [hi8_toNat, word16_toNat]
  omega

namespace Machine

/-- The unsigned value of a zero-extended byte. -/
theorem zext16_toNat (v : Byte) : (zext16 v).toNat = v.toNat := by
  have hv := v.isLt
  simp only [zext16, BitVec.toNat_setWidth]
  omega

/-- The signed value of a sign-extended byte. -/
theorem sext16_toInt (v : Byte) : (sext16 v).toInt = v.toInt := by
  simp [sext16, BitVec.toInt_signExtend_of_le]

/-- The page-cross bit compares page numbers. -/
theorem crossed_iff (base ea : Addr) : crossed base ea = true ↔ base.toNat / 0x100 ≠ ea.toNat / 0x100 := by
  simp only [crossed, bne_iff_ne, ne_eq, ← hi8_toNat]
  rw [not_iff_not, eq_comm, BitVec.toNat_inj]

/-- Every stack address lies in page 1. -/
theorem stackAddr_toNat (v : Byte) : (stackAddr v).toNat = 0x100 + v.toNat := by
  rw [stackAddr, word16_toNat]
  rfl

end Machine
end Sys2Proof
end

