-- ==== Sys2Proof/Laws/Flags.lean ====
section
/-! SUPPORT. The flag computations of the meanings against the same computations by unsigned value (Sys2Proof/Safety.lean). -/

namespace Sys2Proof.Machine

/-- Bit 7 of a byte is its being at least 0x80. -/
theorem bit7_eq_negative (v : Byte) : v.getLsbD 7 = negative v := by
  revert v; decide

/-- A byte is zero when its value is. -/
theorem beq_zero_eq (v : Byte) : (v == 0#8) = decide (v.toNat = 0) := by
  revert v; decide

/-- `SetNZ` by unsigned value. -/
theorem setNZ_eq (v : Byte) (f : Flags) : setNZ v f = flagsNZ v f := by
  have h : (v == 0x00) = decide (v.toNat = 0) := beq_zero_eq v
  unfold setNZ flagsNZ
  rw [bit7_eq_negative, h]
  rfl

/-- The pushed status byte by unsigned value. -/
theorem packP_eq (f : Flags) : packP true f = statusByte f := by
  obtain ⟨n, v, d, i, z, c⟩ := f
  revert n v d i z c; decide

/-- The six flags of a pulled byte by unsigned value. -/
theorem unpackP_eq (v : Byte) : unpackP v = flagsOfByte v := by
  revert v; decide

/-- Unpacking what was packed gives the flags back. -/
@[simp] theorem unpackP_packP (b : Bool) (f : Flags) : unpackP (packP b f) = f := by
  obtain ⟨n, v, d, i, z, c⟩ := f
  revert b n v d i z c; decide

/-- The page-cross bit as a cost. -/
theorem crossed_toNat (base ea : Addr) : (crossed base ea).toNat = pageCost base ea := by
  unfold pageCost
  split
  · next h => simp [Bool.eq_false_iff, crossed_iff, h]
  · next h => simp [(crossed_iff base ea).2 h]

end Sys2Proof.Machine
end

