-- ==== Sys2Proof/Laws/State.lean ====
section
/-! SUPPORT. What each register update leaves in each field of the state: one lemma per field per update, each true by definition. -/

namespace Sys2Proof.Machine

@[simp] theorem setA_a (v : Byte) (s : State) : (s.setA v).a = v := rfl
@[simp] theorem setA_x (v : Byte) (s : State) : (s.setA v).x = s.x := rfl
@[simp] theorem setA_y (v : Byte) (s : State) : (s.setA v).y = s.y := rfl
@[simp] theorem setA_sp (v : Byte) (s : State) : (s.setA v).sp = s.sp := rfl
@[simp] theorem setA_pc (v : Byte) (s : State) : (s.setA v).pc = s.pc := rfl
@[simp] theorem setA_flags (v : Byte) (s : State) : (s.setA v).flags = s.flags := rfl
@[simp] theorem setA_mem (v : Byte) (s : State) : (s.setA v).mem = s.mem := rfl
@[simp] theorem setA_tracker (v : Byte) (s : State) : (s.setA v).tracker = s.tracker := rfl
@[simp] theorem setA_pending (v : Byte) (s : State) : (s.setA v).pending = s.pending := rfl
@[simp] theorem setA_curFrame (v : Byte) (s : State) : (s.setA v).curFrame = s.curFrame := rfl
@[simp] theorem setA_used (v : Byte) (s : State) : (s.setA v).used = s.used := rfl
@[simp] theorem setA_trace (v : Byte) (s : State) : (s.setA v).trace = s.trace := rfl

@[simp] theorem setX_a (v : Byte) (s : State) : (s.setX v).a = s.a := rfl
@[simp] theorem setX_x (v : Byte) (s : State) : (s.setX v).x = v := rfl
@[simp] theorem setX_y (v : Byte) (s : State) : (s.setX v).y = s.y := rfl
@[simp] theorem setX_sp (v : Byte) (s : State) : (s.setX v).sp = s.sp := rfl
@[simp] theorem setX_pc (v : Byte) (s : State) : (s.setX v).pc = s.pc := rfl
@[simp] theorem setX_flags (v : Byte) (s : State) : (s.setX v).flags = s.flags := rfl
@[simp] theorem setX_mem (v : Byte) (s : State) : (s.setX v).mem = s.mem := rfl
@[simp] theorem setX_tracker (v : Byte) (s : State) : (s.setX v).tracker = s.tracker := rfl
@[simp] theorem setX_pending (v : Byte) (s : State) : (s.setX v).pending = s.pending := rfl
@[simp] theorem setX_curFrame (v : Byte) (s : State) : (s.setX v).curFrame = s.curFrame := rfl
@[simp] theorem setX_used (v : Byte) (s : State) : (s.setX v).used = s.used := rfl
@[simp] theorem setX_trace (v : Byte) (s : State) : (s.setX v).trace = s.trace := rfl

@[simp] theorem setY_a (v : Byte) (s : State) : (s.setY v).a = s.a := rfl
@[simp] theorem setY_x (v : Byte) (s : State) : (s.setY v).x = s.x := rfl
@[simp] theorem setY_y (v : Byte) (s : State) : (s.setY v).y = v := rfl
@[simp] theorem setY_sp (v : Byte) (s : State) : (s.setY v).sp = s.sp := rfl
@[simp] theorem setY_pc (v : Byte) (s : State) : (s.setY v).pc = s.pc := rfl
@[simp] theorem setY_flags (v : Byte) (s : State) : (s.setY v).flags = s.flags := rfl
@[simp] theorem setY_mem (v : Byte) (s : State) : (s.setY v).mem = s.mem := rfl
@[simp] theorem setY_tracker (v : Byte) (s : State) : (s.setY v).tracker = s.tracker := rfl
@[simp] theorem setY_pending (v : Byte) (s : State) : (s.setY v).pending = s.pending := rfl
@[simp] theorem setY_curFrame (v : Byte) (s : State) : (s.setY v).curFrame = s.curFrame := rfl
@[simp] theorem setY_used (v : Byte) (s : State) : (s.setY v).used = s.used := rfl
@[simp] theorem setY_trace (v : Byte) (s : State) : (s.setY v).trace = s.trace := rfl

@[simp] theorem setSp_a (v : Byte) (s : State) : (s.setSp v).a = s.a := rfl
@[simp] theorem setSp_x (v : Byte) (s : State) : (s.setSp v).x = s.x := rfl
@[simp] theorem setSp_y (v : Byte) (s : State) : (s.setSp v).y = s.y := rfl
@[simp] theorem setSp_sp (v : Byte) (s : State) : (s.setSp v).sp = v := rfl
@[simp] theorem setSp_pc (v : Byte) (s : State) : (s.setSp v).pc = s.pc := rfl
@[simp] theorem setSp_flags (v : Byte) (s : State) : (s.setSp v).flags = s.flags := rfl
@[simp] theorem setSp_mem (v : Byte) (s : State) : (s.setSp v).mem = s.mem := rfl
@[simp] theorem setSp_tracker (v : Byte) (s : State) : (s.setSp v).tracker = s.tracker := rfl
@[simp] theorem setSp_pending (v : Byte) (s : State) : (s.setSp v).pending = s.pending := rfl
@[simp] theorem setSp_curFrame (v : Byte) (s : State) : (s.setSp v).curFrame = s.curFrame := rfl
@[simp] theorem setSp_used (v : Byte) (s : State) : (s.setSp v).used = s.used := rfl
@[simp] theorem setSp_trace (v : Byte) (s : State) : (s.setSp v).trace = s.trace := rfl

@[simp] theorem setPc_a (v : Addr) (s : State) : (s.setPc v).a = s.a := rfl
@[simp] theorem setPc_x (v : Addr) (s : State) : (s.setPc v).x = s.x := rfl
@[simp] theorem setPc_y (v : Addr) (s : State) : (s.setPc v).y = s.y := rfl
@[simp] theorem setPc_sp (v : Addr) (s : State) : (s.setPc v).sp = s.sp := rfl
@[simp] theorem setPc_pc (v : Addr) (s : State) : (s.setPc v).pc = v := rfl
@[simp] theorem setPc_flags (v : Addr) (s : State) : (s.setPc v).flags = s.flags := rfl
@[simp] theorem setPc_mem (v : Addr) (s : State) : (s.setPc v).mem = s.mem := rfl
@[simp] theorem setPc_tracker (v : Addr) (s : State) : (s.setPc v).tracker = s.tracker := rfl
@[simp] theorem setPc_pending (v : Addr) (s : State) : (s.setPc v).pending = s.pending := rfl
@[simp] theorem setPc_curFrame (v : Addr) (s : State) : (s.setPc v).curFrame = s.curFrame := rfl
@[simp] theorem setPc_used (v : Addr) (s : State) : (s.setPc v).used = s.used := rfl
@[simp] theorem setPc_trace (v : Addr) (s : State) : (s.setPc v).trace = s.trace := rfl

@[simp] theorem setFlags_a (f : Flags) (s : State) : (s.setFlags f).a = s.a := rfl
@[simp] theorem setFlags_x (f : Flags) (s : State) : (s.setFlags f).x = s.x := rfl
@[simp] theorem setFlags_y (f : Flags) (s : State) : (s.setFlags f).y = s.y := rfl
@[simp] theorem setFlags_sp (f : Flags) (s : State) : (s.setFlags f).sp = s.sp := rfl
@[simp] theorem setFlags_pc (f : Flags) (s : State) : (s.setFlags f).pc = s.pc := rfl
@[simp] theorem setFlags_flags (f : Flags) (s : State) : (s.setFlags f).flags = f := rfl
@[simp] theorem setFlags_mem (f : Flags) (s : State) : (s.setFlags f).mem = s.mem := rfl
@[simp] theorem setFlags_tracker (f : Flags) (s : State) : (s.setFlags f).tracker = s.tracker := rfl
@[simp] theorem setFlags_pending (f : Flags) (s : State) : (s.setFlags f).pending = s.pending := rfl
@[simp] theorem setFlags_curFrame (f : Flags) (s : State) : (s.setFlags f).curFrame = s.curFrame := rfl
@[simp] theorem setFlags_used (f : Flags) (s : State) : (s.setFlags f).used = s.used := rfl
@[simp] theorem setFlags_trace (f : Flags) (s : State) : (s.setFlags f).trace = s.trace := rfl

@[simp] theorem setMem_a (m : Memory) (s : State) : (s.setMem m).a = s.a := rfl
@[simp] theorem setMem_x (m : Memory) (s : State) : (s.setMem m).x = s.x := rfl
@[simp] theorem setMem_y (m : Memory) (s : State) : (s.setMem m).y = s.y := rfl
@[simp] theorem setMem_sp (m : Memory) (s : State) : (s.setMem m).sp = s.sp := rfl
@[simp] theorem setMem_pc (m : Memory) (s : State) : (s.setMem m).pc = s.pc := rfl
@[simp] theorem setMem_flags (m : Memory) (s : State) : (s.setMem m).flags = s.flags := rfl
@[simp] theorem setMem_mem (m : Memory) (s : State) : (s.setMem m).mem = m := rfl
@[simp] theorem setMem_tracker (m : Memory) (s : State) : (s.setMem m).tracker = s.tracker := rfl
@[simp] theorem setMem_pending (m : Memory) (s : State) : (s.setMem m).pending = s.pending := rfl
@[simp] theorem setMem_curFrame (m : Memory) (s : State) : (s.setMem m).curFrame = s.curFrame := rfl
@[simp] theorem setMem_used (m : Memory) (s : State) : (s.setMem m).used = s.used := rfl
@[simp] theorem setMem_trace (m : Memory) (s : State) : (s.setMem m).trace = s.trace := rfl

@[simp] theorem addCycles_a (n : Nat) (s : State) : (s.addCycles n).a = s.a := rfl
@[simp] theorem addCycles_x (n : Nat) (s : State) : (s.addCycles n).x = s.x := rfl
@[simp] theorem addCycles_y (n : Nat) (s : State) : (s.addCycles n).y = s.y := rfl
@[simp] theorem addCycles_sp (n : Nat) (s : State) : (s.addCycles n).sp = s.sp := rfl
@[simp] theorem addCycles_pc (n : Nat) (s : State) : (s.addCycles n).pc = s.pc := rfl
@[simp] theorem addCycles_flags (n : Nat) (s : State) : (s.addCycles n).flags = s.flags := rfl
@[simp] theorem addCycles_mem (n : Nat) (s : State) : (s.addCycles n).mem = s.mem := rfl
@[simp] theorem addCycles_tracker (n : Nat) (s : State) : (s.addCycles n).tracker = s.tracker := rfl
@[simp] theorem addCycles_pending (n : Nat) (s : State) : (s.addCycles n).pending = s.pending := rfl
@[simp] theorem addCycles_curFrame (n : Nat) (s : State) : (s.addCycles n).curFrame = s.curFrame := rfl
@[simp] theorem addCycles_used (n : Nat) (s : State) : (s.addCycles n).used = s.used + n := rfl
@[simp] theorem addCycles_trace (n : Nat) (s : State) : (s.addCycles n).trace = s.trace := rfl

@[simp] theorem setFrame_a (k : Nat) (s : State) : (s.setFrame k).a = s.a := rfl
@[simp] theorem setFrame_x (k : Nat) (s : State) : (s.setFrame k).x = s.x := rfl
@[simp] theorem setFrame_y (k : Nat) (s : State) : (s.setFrame k).y = s.y := rfl
@[simp] theorem setFrame_sp (k : Nat) (s : State) : (s.setFrame k).sp = s.sp := rfl
@[simp] theorem setFrame_pc (k : Nat) (s : State) : (s.setFrame k).pc = s.pc := rfl
@[simp] theorem setFrame_flags (k : Nat) (s : State) : (s.setFrame k).flags = s.flags := rfl
@[simp] theorem setFrame_mem (k : Nat) (s : State) : (s.setFrame k).mem = s.mem := rfl
@[simp] theorem setFrame_tracker (k : Nat) (s : State) : (s.setFrame k).tracker = s.tracker := rfl
@[simp] theorem setFrame_pending (k : Nat) (s : State) : (s.setFrame k).pending = s.pending := rfl
@[simp] theorem setFrame_curFrame (k : Nat) (s : State) : (s.setFrame k).curFrame = k := rfl
@[simp] theorem setFrame_used (k : Nat) (s : State) : (s.setFrame k).used = s.used := rfl
@[simp] theorem setFrame_trace (k : Nat) (s : State) : (s.setFrame k).trace = s.trace := rfl

@[simp] theorem hostWrite_a (a : Addr) (v : Byte) (s : State) : (s.hostWrite a v).a = s.a := rfl
@[simp] theorem hostWrite_x (a : Addr) (v : Byte) (s : State) : (s.hostWrite a v).x = s.x := rfl
@[simp] theorem hostWrite_y (a : Addr) (v : Byte) (s : State) : (s.hostWrite a v).y = s.y := rfl
@[simp] theorem hostWrite_sp (a : Addr) (v : Byte) (s : State) : (s.hostWrite a v).sp = s.sp := rfl
@[simp] theorem hostWrite_pc (a : Addr) (v : Byte) (s : State) : (s.hostWrite a v).pc = s.pc := rfl
@[simp] theorem hostWrite_flags (a : Addr) (v : Byte) (s : State) : (s.hostWrite a v).flags = s.flags := rfl
@[simp] theorem hostWrite_mem (a : Addr) (v : Byte) (s : State) : (s.hostWrite a v).mem = s.mem.write a.toNat v := rfl
@[simp] theorem hostWrite_tracker (a : Addr) (v : Byte) (s : State) : (s.hostWrite a v).tracker = s.tracker := rfl
@[simp] theorem hostWrite_pending (a : Addr) (v : Byte) (s : State) : (s.hostWrite a v).pending = s.pending := rfl
@[simp] theorem hostWrite_curFrame (a : Addr) (v : Byte) (s : State) : (s.hostWrite a v).curFrame = s.curFrame := rfl
@[simp] theorem hostWrite_used (a : Addr) (v : Byte) (s : State) : (s.hostWrite a v).used = s.used := rfl
@[simp] theorem hostWrite_trace (a : Addr) (v : Byte) (s : State) : (s.hostWrite a v).trace = s.trace := rfl

@[simp] theorem flush_a (k : Nat) (s : State) : (flush k s).a = s.a := rfl
@[simp] theorem flush_x (k : Nat) (s : State) : (flush k s).x = s.x := rfl
@[simp] theorem flush_y (k : Nat) (s : State) : (flush k s).y = s.y := rfl
@[simp] theorem flush_sp (k : Nat) (s : State) : (flush k s).sp = s.sp := rfl
@[simp] theorem flush_pc (k : Nat) (s : State) : (flush k s).pc = s.pc := rfl
@[simp] theorem flush_flags (k : Nat) (s : State) : (flush k s).flags = s.flags := rfl
@[simp] theorem flush_mem (k : Nat) (s : State) : (flush k s).mem = s.mem := rfl
@[simp] theorem flush_tracker (k : Nat) (s : State) : (flush k s).tracker = s.tracker := rfl
@[simp] theorem flush_pending (k : Nat) (s : State) : (flush k s).pending = [] := rfl
@[simp] theorem flush_curFrame (k : Nat) (s : State) : (flush k s).curFrame = s.curFrame := rfl
@[simp] theorem flush_used (k : Nat) (s : State) : (flush k s).used = s.used := rfl
@[simp] theorem flush_trace (k : Nat) (s : State) : (flush k s).trace = s.trace ++ [flushedFrame k s] := rfl

@[simp] theorem dropPending_a (s : State) : (dropPending s).a = s.a := rfl
@[simp] theorem dropPending_x (s : State) : (dropPending s).x = s.x := rfl
@[simp] theorem dropPending_y (s : State) : (dropPending s).y = s.y := rfl
@[simp] theorem dropPending_sp (s : State) : (dropPending s).sp = s.sp := rfl
@[simp] theorem dropPending_pc (s : State) : (dropPending s).pc = s.pc := rfl
@[simp] theorem dropPending_flags (s : State) : (dropPending s).flags = s.flags := rfl
@[simp] theorem dropPending_mem (s : State) : (dropPending s).mem = s.mem := rfl
@[simp] theorem dropPending_tracker (s : State) : (dropPending s).tracker = s.tracker := rfl
@[simp] theorem dropPending_pending (s : State) : (dropPending s).pending = [] := rfl
@[simp] theorem dropPending_curFrame (s : State) : (dropPending s).curFrame = s.curFrame := rfl
@[simp] theorem dropPending_used (s : State) : (dropPending s).used = s.used := rfl
@[simp] theorem dropPending_trace (s : State) : (dropPending s).trace = s.trace := rfl

/-- Two states with equal memories read alike. -/
theorem memRead_congr (s t : State) (h : t.mem = s.mem) (a : Addr) : t.memRead a = s.memRead a := by
  simp [State.memRead, h]

@[simp] theorem setA_memRead (v : Byte) (s : State) (a : Addr) : (s.setA v).memRead a = s.memRead a := rfl
@[simp] theorem setX_memRead (v : Byte) (s : State) (a : Addr) : (s.setX v).memRead a = s.memRead a := rfl
@[simp] theorem setY_memRead (v : Byte) (s : State) (a : Addr) : (s.setY v).memRead a = s.memRead a := rfl
@[simp] theorem setSp_memRead (v : Byte) (s : State) (a : Addr) : (s.setSp v).memRead a = s.memRead a := rfl
@[simp] theorem setPc_memRead (v : Addr) (s : State) (a : Addr) : (s.setPc v).memRead a = s.memRead a := rfl
@[simp] theorem setFlags_memRead (f : Flags) (s : State) (a : Addr) : (s.setFlags f).memRead a = s.memRead a := rfl
@[simp] theorem addCycles_memRead (n : Nat) (s : State) (a : Addr) : (s.addCycles n).memRead a = s.memRead a := rfl
@[simp] theorem setFrame_memRead (k : Nat) (s : State) (a : Addr) : (s.setFrame k).memRead a = s.memRead a := rfl

@[simp] theorem flush_memRead (k : Nat) (s : State) (a : Addr) : (flush k s).memRead a = s.memRead a := rfl

end Sys2Proof.Machine
end

