-- ==== Sys2Proof/Laws/Memory.lean ====
section
/-! SUPPORT. The laws of memory: a read after a write, and every memory operation keeps the canonical form. -/

namespace Sys2Proof.Machine

@[simp] theorem Memory.read_nil (a : Nat) : Memory.read [] a = 0 := rfl

theorem Memory.read_cons (k : Nat) (v : Byte) (rest : Memory) (a : Nat) :
    Memory.read ((k, v) :: rest) a = if a = k then v else Memory.read rest a := rfl

theorem Memory.erase_cons (k : Nat) (v : Byte) (rest : Memory) (a : Nat) :
    Memory.erase ((k, v) :: rest) a = if k = a then Memory.erase rest a else (k, v) :: Memory.erase rest a := by
  by_cases h : k = a <;> simp [Memory.erase, h]

theorem Memory.read_erase (m : Memory) (a b : Nat) :
    (m.erase a).read b = if b = a then 0 else m.read b := by
  induction m with
  | nil => simp [Memory.erase]
  | cons cell rest ih =>
    obtain ⟨k, v⟩ := cell
    rw [Memory.erase_cons, Memory.read_cons]
    by_cases hk : k = a
    · subst hk; simp only [if_true, ih]
      by_cases hb : b = k <;> simp [hb]
    · simp only [hk, if_false, Memory.read_cons, ih]
      by_cases hb : b = k
      · subst hb; simp [hk]
      · simp [hb]

theorem Memory.mem_of_mem_erase {m : Memory} {a : Nat} {cell : Host.Cell} (h : cell ∈ m.erase a) :
    cell ∈ m ∧ cell.1 ≠ a := by
  simpa [Memory.erase] using h

theorem Memory.mem_insert {m : Memory} {a : Nat} {v : Byte} {cell : Host.Cell} (h : cell ∈ m.insert a v) :
    cell = (a, v) ∨ cell ∈ m := by
  induction m with
  | nil => simpa [Memory.insert] using h
  | cons head rest ih =>
    obtain ⟨k, w⟩ := head
    simp only [Memory.insert] at h
    split at h
    · simpa using h
    · rcases List.mem_cons.1 h with h | h
      · exact .inr (by simp [h])
      · rcases ih h with h | h
        · exact .inl h
        · exact .inr (by simp [h])

theorem Memory.read_insert (m : Memory) (a : Nat) (v : Byte) (b : Nat) (h : ∀ cell ∈ m, cell.1 ≠ a) :
    (m.insert a v).read b = if b = a then v else m.read b := by
  induction m with
  | nil => simp [Memory.insert, Memory.read_cons]
  | cons head rest ih =>
    obtain ⟨k, w⟩ := head
    have hk : k ≠ a := h (k, w) (by simp)
    simp only [Memory.insert]
    split
    · rw [Memory.read_cons]
    · rw [Memory.read_cons, Memory.read_cons, ih (fun c hc => h c (by simp [hc]))]
      by_cases hb : b = k
      · subst hb; simp [hk]
      · simp [hb]

/-- A read after a write gives the byte written at its address, and what was there at every other. -/
theorem Memory.read_write (m : Memory) (a : Nat) (v : Byte) (b : Nat) :
    (m.write a v).read b = if b = a then v else m.read b := by
  unfold Memory.write
  split
  · next h => rw [Memory.read_erase, h]
  · rw [Memory.read_insert _ _ _ _ (fun c hc => (Memory.mem_of_mem_erase hc).2), Memory.read_erase]
    by_cases hb : b = a <;> simp [hb]

theorem Memory.wf_cons (k : Nat) (v : Byte) (rest : Memory) :
    Memory.wf ((k, v) :: rest) = true ↔
      k < 0x10000 ∧ v ≠ 0 ∧ (∀ cell ∈ rest, k < cell.1) ∧ Memory.wf rest = true := by
  simp [Memory.wf, List.all_eq_true, and_assoc]

theorem Memory.wf_erase (m : Memory) (a : Nat) (h : m.wf = true) : (m.erase a).wf = true := by
  induction m with
  | nil => rfl
  | cons head rest ih =>
    obtain ⟨k, w⟩ := head
    rw [Memory.wf_cons] at h
    rw [Memory.erase_cons]
    split
    · exact ih h.2.2.2
    · exact (Memory.wf_cons _ _ _).2
        ⟨h.1, h.2.1, fun c hc => h.2.2.1 c (Memory.mem_of_mem_erase hc).1, ih h.2.2.2⟩

theorem Memory.wf_insert (m : Memory) (a : Nat) (v : Byte) (ha : a < 0x10000) (hv : v ≠ 0) (h : m.wf = true)
    (hm : ∀ cell ∈ m, cell.1 ≠ a) : (m.insert a v).wf = true := by
  induction m with
  | nil => exact (Memory.wf_cons a v []).2 ⟨ha, hv, fun c hc => absurd hc (by simp), rfl⟩
  | cons head rest ih =>
    obtain ⟨k, w⟩ := head
    have h0 := h
    rw [Memory.wf_cons] at h
    have hk : k ≠ a := hm (k, w) (by simp)
    simp only [Memory.insert]
    split
    · next hlt =>
      refine (Memory.wf_cons _ _ _).2 ⟨ha, hv, ?_, h0⟩
      intro c hc
      rcases List.mem_cons.1 hc with hc | hc
      · simpa [hc] using hlt
      · exact lt_trans hlt (h.2.2.1 c hc)
    · next hge =>
      refine (Memory.wf_cons _ _ _).2 ⟨h.1, h.2.1, ?_, ih h.2.2.2 (fun c hc => hm c (by simp [hc]))⟩
      intro c hc
      rcases Memory.mem_insert hc with hc | hc
      · subst hc; dsimp only; omega
      · exact h.2.2.1 c hc

/-- A write to an address of the space keeps the canonical form. -/
theorem Memory.wf_write (m : Memory) (a : Nat) (v : Byte) (ha : a < 0x10000) (h : m.wf = true) :
    (m.write a v).wf = true := by
  unfold Memory.write
  split
  · exact Memory.wf_erase m a h
  · next hv => exact Memory.wf_insert _ a v ha hv (Memory.wf_erase m a h) (fun c hc => (Memory.mem_of_mem_erase hc).2)

theorem Memory.read_eq_zero_of_lt (m : Memory) (a : Nat) (h : ∀ cell ∈ m, a < cell.1) : m.read a = 0 := by
  induction m with
  | nil => rfl
  | cons head rest ih =>
    obtain ⟨k, w⟩ := head
    have hk : a < k := h (k, w) (by simp)
    rw [Memory.read_cons, if_neg (by omega), ih (fun c hc => h c (by simp [hc]))]

/-- Two memories in canonical form that read alike are equal. -/
theorem Memory.eq_of_read_eq (m m' : Memory) (h : m.wf = true) (h' : m'.wf = true)
    (hr : ∀ a, m.read a = m'.read a) : m = m' := by
  induction m generalizing m' with
  | nil =>
    cases m' with
    | nil => rfl
    | cons head rest =>
      obtain ⟨k, w⟩ := head
      rw [Memory.wf_cons] at h'
      have := hr k
      simp [Memory.read_cons] at this
      exact absurd this.symm h'.2.1
  | cons head rest ih =>
    obtain ⟨k, w⟩ := head
    rw [Memory.wf_cons] at h
    cases m' with
    | nil =>
      have := hr k
      simp [Memory.read_cons] at this
      exact absurd this h.2.1
    | cons head' rest' =>
      obtain ⟨k', w'⟩ := head'
      have h0' := h'
      rw [Memory.wf_cons] at h'
      have hkk : k = k' := by
        rcases Nat.lt_trichotomy k k' with hlt | heq | hgt
        · have h1 := hr k
          rw [Memory.read_cons, if_pos rfl, Memory.read_cons, if_neg (by omega),
            Memory.read_eq_zero_of_lt rest' k (fun c hc => lt_trans hlt (h'.2.2.1 c hc))] at h1
          exact absurd h1 h.2.1
        · exact heq
        · have h1 := hr k'
          rw [Memory.read_cons, if_neg (by omega), Memory.read_cons, if_pos rfl,
            Memory.read_eq_zero_of_lt rest k' (fun c hc => lt_trans hgt (h.2.2.1 c hc))] at h1
          exact absurd h1.symm h'.2.1
      subst hkk
      have hw : w = w' := by simpa [Memory.read_cons] using hr k
      subst hw
      have : rest = rest' := by
        refine ih rest' h.2.2.2 h'.2.2.2 (fun a => ?_)
        by_cases ha : a = k
        · subst ha
          rw [Memory.read_eq_zero_of_lt rest a h.2.2.1, Memory.read_eq_zero_of_lt rest' a h'.2.2.1]
        · simpa [Memory.read_cons, ha] using hr a
      rw [this]

theorem addr_toNat_inj (a b : Addr) : a.toNat = b.toNat ↔ a = b :=
  ⟨fun h => BitVec.eq_of_toNat_eq h, fun h => by rw [h]⟩

/-- A read after a host write. -/
theorem hostWrite_memRead (a : Addr) (v : Byte) (s : State) (b : Addr) :
    (s.hostWrite a v).memRead b = if b = a then v else s.memRead b := by
  simp only [State.memRead, hostWrite_mem, Memory.read_write, addr_toNat_inj]

/-- A host write keeps the canonical form. -/
theorem hostWrite_wf (a : Addr) (v : Byte) (s : State) (h : s.mem.wf = true) : (s.hostWrite a v).mem.wf = true :=
  Memory.wf_write s.mem a.toNat v a.isLt h

/-- The memory after reset is in canonical form. -/
theorem reset_mem_wf : State.reset.mem.wf = true := rfl

end Sys2Proof.Machine
end

