-- ==== Sys2Proof/Laws/Tracker.lean ====
section
/-! SUPPORT. The write hook: which fields it leaves alone, and what it does to the tracker and the pending events. -/

namespace Sys2Proof.Machine

/-- The window by its unsigned bounds. -/
theorem inWindow_iff (a : Addr) : inWindow a = true ↔ 0xD400 ≤ a.toNat ∧ a.toNat ≤ 0xD418 := by
  simp [inWindow, Config.chipBase, Config.chipLast, BitVec.le_def]

/-- The offset of a window address. -/
theorem windowOffset_eq (a : Addr) (h : inWindow a = true) : windowOffset a = a.toNat - 0xD400 := by
  rw [inWindow_iff] at h
  have hlt := a.isLt
  have hbase : (0xD400 : Addr).toNat = 0xD400 := rfl
  rw [windowOffset, Config.chipBase, BitVec.toNat_sub, hbase]
  omega

@[simp] theorem onWrite_a (a : Addr) (v : Byte) (k : Nat) (s : State) : (s.onWrite a v k).a = s.a := by
  unfold State.onWrite; split <;> rfl

@[simp] theorem onWrite_x (a : Addr) (v : Byte) (k : Nat) (s : State) : (s.onWrite a v k).x = s.x := by
  unfold State.onWrite; split <;> rfl

@[simp] theorem onWrite_y (a : Addr) (v : Byte) (k : Nat) (s : State) : (s.onWrite a v k).y = s.y := by
  unfold State.onWrite; split <;> rfl

@[simp] theorem onWrite_sp (a : Addr) (v : Byte) (k : Nat) (s : State) : (s.onWrite a v k).sp = s.sp := by
  unfold State.onWrite; split <;> rfl

@[simp] theorem onWrite_pc (a : Addr) (v : Byte) (k : Nat) (s : State) : (s.onWrite a v k).pc = s.pc := by
  unfold State.onWrite; split <;> rfl

@[simp] theorem onWrite_flags (a : Addr) (v : Byte) (k : Nat) (s : State) : (s.onWrite a v k).flags = s.flags := by
  unfold State.onWrite; split <;> rfl

@[simp] theorem onWrite_mem (a : Addr) (v : Byte) (k : Nat) (s : State) : (s.onWrite a v k).mem = s.mem := by
  unfold State.onWrite; split <;> rfl

@[simp] theorem onWrite_curFrame (a : Addr) (v : Byte) (k : Nat) (s : State) : (s.onWrite a v k).curFrame = s.curFrame := by
  unfold State.onWrite; split <;> rfl

@[simp] theorem onWrite_used (a : Addr) (v : Byte) (k : Nat) (s : State) : (s.onWrite a v k).used = s.used := by
  unfold State.onWrite; split <;> rfl

@[simp] theorem onWrite_trace (a : Addr) (v : Byte) (k : Nat) (s : State) : (s.onWrite a v k).trace = s.trace := by
  unfold State.onWrite; split <;> rfl

/-- What one write to the hook appends to the pending events. -/
theorem onWrite_pending (a : Addr) (v : Byte) (k : Nat) (s : State) :
    (s.onWrite a v k).pending = s.pending ++ (if inWindow a then [⟨k, a, v⟩] else []) := by
  unfold State.onWrite; split <;> simp [*]

/-- The hook's field update is that of the event it appends. -/
theorem onWrite_tracker (a : Addr) (v : Byte) (k : Nat) (s : State) :
    (s.onWrite a v k).tracker = s.tracker.apply ⟨k, a, v⟩ := by
  unfold State.onWrite Tracker.apply; split <;> simp [*]

@[simp] theorem replay_nil (t : Tracker) : replay t [] = t := rfl

@[simp] theorem replay_cons (t : Tracker) (e : Event) (es : List Event) : replay t (e :: es) = replay (t.apply e) es := rfl

@[simp] theorem replay_append (t : Tracker) (es es' : List Event) : replay t (es ++ es') = replay (replay t es) es' := by
  simp [replay, List.foldl_append]

end Sys2Proof.Machine
end

