-- ==== Sys2Proof/Laws/Ops.lean ====
section
/-! SUPPORT. What each shared operation does, once: `MemWrite`, `Push`, `Pull`, the trap and its return, the ends of a step. -/

namespace Sys2Proof.Machine

@[simp] theorem memWrite_a (a : Addr) (v : Byte) (s : State) : (s.memWrite a v).a = s.a := by
  simp [State.memWrite]

@[simp] theorem memWrite_x (a : Addr) (v : Byte) (s : State) : (s.memWrite a v).x = s.x := by
  simp [State.memWrite]

@[simp] theorem memWrite_y (a : Addr) (v : Byte) (s : State) : (s.memWrite a v).y = s.y := by
  simp [State.memWrite]

@[simp] theorem memWrite_sp (a : Addr) (v : Byte) (s : State) : (s.memWrite a v).sp = s.sp := by
  simp [State.memWrite]

@[simp] theorem memWrite_pc (a : Addr) (v : Byte) (s : State) : (s.memWrite a v).pc = s.pc := by
  simp [State.memWrite]

@[simp] theorem memWrite_flags (a : Addr) (v : Byte) (s : State) : (s.memWrite a v).flags = s.flags := by
  simp [State.memWrite]

@[simp] theorem memWrite_curFrame (a : Addr) (v : Byte) (s : State) : (s.memWrite a v).curFrame = s.curFrame := by
  simp [State.memWrite]

@[simp] theorem memWrite_used (a : Addr) (v : Byte) (s : State) : (s.memWrite a v).used = s.used := by
  simp [State.memWrite]

@[simp] theorem memWrite_trace (a : Addr) (v : Byte) (s : State) : (s.memWrite a v).trace = s.trace := by
  simp [State.memWrite]

@[simp] theorem memWrite_mem (a : Addr) (v : Byte) (s : State) : (s.memWrite a v).mem = s.mem.write a.toNat v := by
  simp [State.memWrite]

/-- A read after `MemWrite`. -/
@[simp] theorem memWrite_memRead (a : Addr) (v : Byte) (s : State) (b : Addr) :
    (s.memWrite a v).memRead b = if b = a then v else s.memRead b := by
  rw [← hostWrite_memRead]
  exact memRead_congr _ _ (by simp) b

/-- `MemWrite` appends the events of its one write. -/
@[simp] theorem memWrite_pending (a : Addr) (v : Byte) (s : State) :
    (s.memWrite a v).pending = s.pending ++ eventsOf s.curFrame [(a, v)] := by
  by_cases h : inWindow a
  · have h' := (inWindow_iff a).1 h
    simp [State.memWrite, onWrite_pending, eventsOf, h, h']
  · have h' : ¬(0xD400 ≤ a.toNat ∧ a.toNat ≤ 0xD418) := fun hc => h ((inWindow_iff a).2 hc)
    simp [State.memWrite, onWrite_pending, eventsOf, h, h']

/-- `MemWrite` updates the tracker as the replay of the events of its one write. -/
@[simp] theorem memWrite_tracker (a : Addr) (v : Byte) (s : State) :
    (s.memWrite a v).tracker = replay s.tracker (eventsOf s.curFrame [(a, v)]) := by
  by_cases h : inWindow a
  · have h' := (inWindow_iff a).1 h
    simp [State.memWrite, onWrite_tracker, eventsOf, h']
  · have h' : ¬(0xD400 ≤ a.toNat ∧ a.toNat ≤ 0xD418) := fun hc => h ((inWindow_iff a).2 hc)
    simp [State.memWrite, onWrite_tracker, eventsOf, h', Tracker.apply, h]

/-- `MemWrite` keeps the canonical form. -/
theorem memWrite_wf (a : Addr) (v : Byte) (s : State) (h : s.mem.wf = true) : (s.memWrite a v).mem.wf = true := by
  rw [memWrite_mem]
  exact Memory.wf_write _ _ _ a.isLt h

/-- The events of two writes in a row. -/
theorem eventsOf_cons (k : Nat) (w : Addr × Byte) (ws : List (Addr × Byte)) :
    eventsOf k (w :: ws) = eventsOf k [w] ++ eventsOf k ws := by
  simp only [eventsOf, List.filter_cons, List.filter_nil]
  split <;> simp

/-- Every event of some writes carries the frame and lies in the window. -/
theorem eventsOf_mem (k : Nat) (ws : List (Addr × Byte)) (e : Event) (h : e ∈ eventsOf k ws) :
    e.frame = k ∧ inWindow e.addr = true := by
  simp only [eventsOf, List.mem_map, List.mem_filter, decide_eq_true_eq] at h
  obtain ⟨w, ⟨-, hw⟩, rfl⟩ := h
  exact ⟨rfl, (inWindow_iff _).2 hw⟩

@[simp] theorem push_a (v : Byte) (s : State) : (s.push v).a = s.a := by
  simp [State.push]

@[simp] theorem push_x (v : Byte) (s : State) : (s.push v).x = s.x := by
  simp [State.push]

@[simp] theorem push_y (v : Byte) (s : State) : (s.push v).y = s.y := by
  simp [State.push]

@[simp] theorem push_sp (v : Byte) (s : State) : (s.push v).sp = s.sp - 1 := by
  simp [State.push]

@[simp] theorem push_pc (v : Byte) (s : State) : (s.push v).pc = s.pc := by
  simp [State.push]

@[simp] theorem push_flags (v : Byte) (s : State) : (s.push v).flags = s.flags := by
  simp [State.push]

@[simp] theorem push_curFrame (v : Byte) (s : State) : (s.push v).curFrame = s.curFrame := by
  simp [State.push]

@[simp] theorem push_used (v : Byte) (s : State) : (s.push v).used = s.used := by
  simp [State.push]

@[simp] theorem push_trace (v : Byte) (s : State) : (s.push v).trace = s.trace := by
  simp [State.push]

@[simp] theorem push_mem (v : Byte) (s : State) : (s.push v).mem = s.mem.write (stackAddr s.sp).toNat v := by
  simp [State.push]

@[simp] theorem push_memRead (v : Byte) (s : State) (b : Addr) :
    (s.push v).memRead b = if b = stackAddr s.sp then v else s.memRead b := by
  simp [State.push]

@[simp] theorem push_pending (v : Byte) (s : State) :
    (s.push v).pending = s.pending ++ eventsOf s.curFrame [(stackAddr s.sp, v)] := by
  simp [State.push]

@[simp] theorem push_tracker (v : Byte) (s : State) :
    (s.push v).tracker = replay s.tracker (eventsOf s.curFrame [(stackAddr s.sp, v)]) := by
  simp [State.push]

/-- A push keeps the canonical form. -/
theorem push_wf (v : Byte) (s : State) (h : s.mem.wf = true) : (s.push v).mem.wf = true := by
  rw [push_mem]
  exact Memory.wf_write _ _ _ (stackAddr s.sp).isLt h

/-- Pushing a word is pushing its high byte, then its low byte. -/
theorem pushWord_eq (v : Addr) (s : State) : s.pushWord v = (s.push (hi8 v)).push (lo8 v) := rfl

/-- A pull reads the slot above `SP` and moves `SP` there. -/
theorem pull_eq (s : State) : s.pull = (s.memRead (stackAddr (s.sp + 1)), s.setSp (s.sp + 1)) := rfl

/-- Pulling a word: low byte first, `SP` up by two. -/
theorem pullWord_eq (s : State) :
    s.pullWord =
      (word16 (s.memRead (stackAddr (s.sp + 1 + 1))) (s.memRead (stackAddr (s.sp + 1))), (s.setSp (s.sp + 1)).setSp (s.sp + 1 + 1)) :=
  rfl

/-- The trap: three pushes, `I` set, and `PC` from the vector as it reads after them. -/
theorem takeBreak_eq (s : State) :
    s.takeBreak =
      ((((s.pushWord (s.pc + 2)).push (packP true s.flags)).setFlags { s.flags with i := true }).setPc
        (((s.pushWord (s.pc + 2)).push (packP true s.flags)).memRead16 Config.brkVector)) := by
  simp [State.takeBreak, pushWord_eq]
  rfl

/-- Returning from the trap: flags from the first slot, `PC` from the next two, `SP` up by three. -/
theorem returnFromBreak_eq (s : State) :
    s.returnFromBreak =
      ((((s.setSp (s.sp + 1)).setFlags (unpackP (s.memRead (stackAddr (s.sp + 1))))).setSp (s.sp + 1 + 1)).setSp (s.sp + 1 + 1 + 1)).setPc
        (word16 (s.memRead (stackAddr (s.sp + 1 + 1 + 1))) (s.memRead (stackAddr (s.sp + 1 + 1)))) := rfl

/-- Ending a step in sequence always answers a next state: `PC` moved on and the cost added. -/
theorem finish_eq (length cycles : Nat) (s : State) :
    finish length cycles s = .next ((s.setPc (s.pc + BitVec.ofNat 16 length)).addCycles cycles) := rfl

/-- Ending a step that wrote `PC` always answers a next state: the cost added. -/
theorem jumped_eq (cycles : Nat) (s : State) : jumped cycles s = .next (s.addCycles cycles) := rfl

/-- The fault of a step names `PC` and the byte there. -/
theorem unsupported_eq (s : State) : unsupported s = .fault (.unsupportedOpcode s.pc (s.memRead s.pc)) := rfl

/-- Storing bytes from the outside keeps the canonical form. -/
theorem storeBytes_wf (bs : List Byte) (a : Addr) (s : State) (h : s.mem.wf = true) : (storeBytes bs a s).mem.wf = true := by
  induction bs generalizing a s with
  | nil => exact h
  | cons b rest ih => exact ih _ _ (hostWrite_wf a b s h)

/-- Storing bytes from the outside changes memory only. -/
theorem storeBytes_eq (bs : List Byte) (a : Addr) (s : State) :
    storeBytes bs a s = s.setMem (storeBytes bs a s).mem := by
  induction bs generalizing a s with
  | nil => rfl
  | cons b rest ih =>
    rw [storeBytes, ih]
    rfl

end Sys2Proof.Machine
end

