-- ==== Sys2Proof/Laws/Meanings.lean ====
section
/-! SUPPORT. The operations that several meanings share, each once: what it does to the fields of the state, and its value functions
by unsigned value. -/

namespace Sys2Proof.Machine

/-- A load of `A` changes `A`, N and Z only. -/
theorem loadA_eq (m : Byte) (s : State) : loadA m s = { s with a := m, flags := flagsNZ m s.flags } := by
  simp only [loadA, setNZ_eq]; rfl

/-- A load of `X` changes `X`, N and Z only. -/
theorem loadX_eq (m : Byte) (s : State) : loadX m s = { s with x := m, flags := flagsNZ m s.flags } := by
  simp only [loadX, setNZ_eq]; rfl

/-- A load of `Y` changes `Y`, N and Z only. -/
theorem loadY_eq (m : Byte) (s : State) : loadY m s = { s with y := m, flags := flagsNZ m s.flags } := by
  simp only [loadY, setNZ_eq]; rfl

/-- BIT changes Z, N and V only. -/
theorem testBits_eq (m : Byte) (s : State) :
    testBits m s = { s with
      flags := { s.flags with
        z := decide ((s.a &&& m).toNat = 0), n := negative m, v := decide (m.toNat / 64 % 2 = 1) } } := by
  have h6 : m.getLsbD 6 = decide (m.toNat / 64 % 2 = 1) := by revert m; decide
  have hz : (s.a &&& m == 0x00) = decide ((s.a &&& m).toNat = 0) := beq_zero_eq _
  simp only [testBits, bitFlags, bit7_eq_negative, hz, h6]; rfl

/-- A compare changes N, Z and C only. -/
theorem compareReg_eq (reg m : Byte) (s : State) :
    compareReg reg m s = { s with
      flags := { flagsNZ (BitVec.ofNat 8 (reg.toNat + 0x100 - m.toNat)) s.flags with c := decide (m.toNat ≤ reg.toNat) } } := by
  have h : BitVec.ofNat 8 (reg.toNat + 0x100 - m.toNat) = reg - m := by
    apply BitVec.eq_of_toNat_eq
    have hr := reg.isLt
    have hm := m.isLt
    simp only [BitVec.toNat_ofNat, BitVec.toNat_sub]
    omega
  simp only [h, compareReg, compareFlags, setNZ_eq, ge_iff_le, BitVec.le_def]; rfl

/-- ASL by unsigned value. -/
theorem aslFn_eq (v : Byte) (f : Flags) :
    aslFn v f = ((aslRule v f.c).1, { flagsNZ (aslRule v f.c).1 f with c := (aslRule v f.c).2 }) := by
  have h : v <<< 1 = (aslRule v f.c).1 := by revert v; cases f.c <;> decide
  simp only [aslFn, setNZ_eq, bit7_eq_negative, h]; rfl

/-- LSR by unsigned value. -/
theorem lsrFn_eq (v : Byte) (f : Flags) :
    lsrFn v f = ((lsrRule v f.c).1, { flagsNZ (lsrRule v f.c).1 f with c := (lsrRule v f.c).2 }) := by
  have h : v >>> 1 = (lsrRule v f.c).1 := by revert v; cases f.c <;> decide
  have hc : v.getLsbD 0 = (lsrRule v f.c).2 := by revert v; cases f.c <;> decide
  simp only [lsrFn, setNZ_eq, h, hc]; rfl

/-- ROL by unsigned value. -/
theorem rolFn_eq (v : Byte) (f : Flags) :
    rolFn v f = ((rolRule v f.c).1, { flagsNZ (rolRule v f.c).1 f with c := (rolRule v f.c).2 }) := by
  have h : (v <<< 1) ||| bitAt f.c 0 = (rolRule v f.c).1 := by revert v; cases f.c <;> decide
  simp only [rolFn, setNZ_eq, bit7_eq_negative, h]; rfl

/-- ROR by unsigned value. -/
theorem rorFn_eq (v : Byte) (f : Flags) :
    rorFn v f = ((rorRule v f.c).1, { flagsNZ (rorRule v f.c).1 f with c := (rorRule v f.c).2 }) := by
  have h : (v >>> 1) ||| bitAt f.c 7 = (rorRule v f.c).1 := by revert v; cases f.c <;> decide
  have hc : v.getLsbD 0 = (rorRule v f.c).2 := by revert v; cases f.c <;> decide
  simp only [rorFn, setNZ_eq, h, hc]; rfl

/-- The read-modify-write pattern: the flags, then one `MemWrite` of the result. -/
theorem rmw_eq (f : Byte → Flags → Byte × Flags) (ea : Addr) (s : State) :
    rmw f ea s = (s.setFlags (f (s.memRead ea) s.flags).2).memWrite ea (f (s.memRead ea) s.flags).1 := rfl

/-- The accumulator form of a shift. -/
theorem onA_eq (f : Byte → Flags → Byte × Flags) (s : State) :
    onA f s = (s.setFlags (f s.a s.flags).2).setA (f s.a s.flags).1 := rfl

/-- ADC with `D = 0`, whatever the policy. -/
theorem adc_binary_mode (policy : DecimalPolicy) (length cycles : Nat) (m : Byte) (s : State) (h : s.flags.d = false) :
    adc policy length cycles m s = finish length cycles (setResult (adcBinary s.a m s.flags.c) s) := by
  simp [adc, h]

/-- SBC with `D = 0`, whatever the policy. -/
theorem sbc_binary_mode (policy : DecimalPolicy) (length cycles : Nat) (m : Byte) (s : State) (h : s.flags.d = false) :
    sbc policy length cycles m s = finish length cycles (setResult (sbcBinary s.a m s.flags.c) s) := by
  simp [sbc, h]

/-- ADC with `D = 1` under the decided policy. -/
theorem adc_decimal_mode (length cycles : Nat) (m : Byte) (s : State) (h : s.flags.d = true) :
    adc Config.decimalPolicy length cycles m s = unsupported s := by
  simp [adc, h, Config.decimalPolicy]

/-- SBC with `D = 1` under the decided policy. -/
theorem sbc_decimal_mode (length cycles : Nat) (m : Byte) (s : State) (h : s.flags.d = true) :
    sbc Config.decimalPolicy length cycles m s = unsupported s := by
  simp [sbc, h, Config.decimalPolicy]

/-- A branch always answers a next state: the target at 3 or 4 cycles, or the next instruction at 2. -/
theorem branch_eq (cond : Bool) (disp : Byte) (s : State) :
    branch cond disp s =
      if cond then .next ((s.setPc (branchTarget disp s)).addCycles (3 + pageCost (branchNext s) (branchTarget disp s)))
      else .next ((s.setPc (s.pc + 2)).addCycles 2) := by
  simp only [branch, jumped_eq, finish_eq, crossed_toNat]; rfl

/-- The loop of `run_until` with no step left. -/
theorem runLoop_zero (cond : State → Bool) (ceiling : Nat) (s : State) :
    runLoop cond ceiling 0 s = if cond s then .done s.used s else loopDetected s := rfl

/-- The loop of `run_until`: the predicate, then the ceiling, then a step. -/
theorem runLoop_succ (cond : State → Bool) (ceiling steps : Nat) (s : State) :
    runLoop cond ceiling (steps + 1) s =
      if cond s then .done s.used s
      else if s.used > ceiling then loopDetected s
      else
        match step s with
        | .next t => runLoop cond ceiling steps t
        | .fault f => .fault f s
        | .refused r => .refused r s := rfl

/-- `Call` is `run_until` from the entered routine up to the sentinel. -/
theorem call_eq (p : Params) (entry : Addr) (ceiling : Nat) (s : State) :
    call p entry ceiling s = runUntil (returned p) ceiling (enterRoutine p entry s) := rfl

/-- The frame loop with no frame left. -/
theorem playFrames_zero (p : Params) (l : Launch) (k : Nat) (s : State) : playFrames p l 0 k s = (s, none) := rfl

/-- The frame loop: the play call of frame `k`, then its flush and the frames after it, or its error. -/
theorem playFrames_succ (p : Params) (l : Launch) (remaining k : Nat) (s : State) :
    playFrames p l (remaining + 1) k s =
      match call p l.playAddr p.playCeiling (s.setFrame k) with
      | .done _ t => playFrames p l remaining (k + 1) (flush k t)
      | .fault f t => (dropPending t, some (playError k f))
      | .refused r t => (dropPending t, some (refusedError k r t)) := rfl

end Sys2Proof.Machine
end

