-- ==== Sys2Proof/Laws/PerInstr.lean ====
section
/-! SUPPORT. The family `EncodedLength`, one lemma per constructor of `Instr`: an instruction's bytes are as many as its addressing mode
says, and begin with an opcode of the decode table whose format has that length (spec/30_encoding.md R101). -/

namespace Sys2Proof.Laws

/-- The bytes of an instruction are as many as its mode says, and as its opcode's format says. -/
def EncodedLength.Statement (i : Instr) : Prop :=
  (encode i).length = i.length ∧ opcodeLength (opcodeOf i) = i.length

theorem EncodedLength.ldaImm (data : Byte) : EncodedLength.Statement (.ldaImm data) := ⟨rfl, rfl⟩
theorem EncodedLength.ldaZp (zp : Byte) : EncodedLength.Statement (.ldaZp zp) := ⟨rfl, rfl⟩
theorem EncodedLength.ldaZpx (zp : Byte) : EncodedLength.Statement (.ldaZpx zp) := ⟨rfl, rfl⟩
theorem EncodedLength.ldaAbs (addr : Addr) : EncodedLength.Statement (.ldaAbs addr) := ⟨rfl, rfl⟩
theorem EncodedLength.ldaAbx (addr : Addr) : EncodedLength.Statement (.ldaAbx addr) := ⟨rfl, rfl⟩
theorem EncodedLength.ldaAby (addr : Addr) : EncodedLength.Statement (.ldaAby addr) := ⟨rfl, rfl⟩
theorem EncodedLength.ldaIzx (zp : Byte) : EncodedLength.Statement (.ldaIzx zp) := ⟨rfl, rfl⟩
theorem EncodedLength.ldaIzy (zp : Byte) : EncodedLength.Statement (.ldaIzy zp) := ⟨rfl, rfl⟩
theorem EncodedLength.ldxImm (data : Byte) : EncodedLength.Statement (.ldxImm data) := ⟨rfl, rfl⟩
theorem EncodedLength.ldxZp (zp : Byte) : EncodedLength.Statement (.ldxZp zp) := ⟨rfl, rfl⟩
theorem EncodedLength.ldxZpy (zp : Byte) : EncodedLength.Statement (.ldxZpy zp) := ⟨rfl, rfl⟩
theorem EncodedLength.ldxAbs (addr : Addr) : EncodedLength.Statement (.ldxAbs addr) := ⟨rfl, rfl⟩
theorem EncodedLength.ldxAby (addr : Addr) : EncodedLength.Statement (.ldxAby addr) := ⟨rfl, rfl⟩
theorem EncodedLength.ldyImm (data : Byte) : EncodedLength.Statement (.ldyImm data) := ⟨rfl, rfl⟩
theorem EncodedLength.ldyZp (zp : Byte) : EncodedLength.Statement (.ldyZp zp) := ⟨rfl, rfl⟩
theorem EncodedLength.ldyZpx (zp : Byte) : EncodedLength.Statement (.ldyZpx zp) := ⟨rfl, rfl⟩
theorem EncodedLength.ldyAbs (addr : Addr) : EncodedLength.Statement (.ldyAbs addr) := ⟨rfl, rfl⟩
theorem EncodedLength.ldyAbx (addr : Addr) : EncodedLength.Statement (.ldyAbx addr) := ⟨rfl, rfl⟩
theorem EncodedLength.staZp (zp : Byte) : EncodedLength.Statement (.staZp zp) := ⟨rfl, rfl⟩
theorem EncodedLength.staZpx (zp : Byte) : EncodedLength.Statement (.staZpx zp) := ⟨rfl, rfl⟩
theorem EncodedLength.staAbs (addr : Addr) : EncodedLength.Statement (.staAbs addr) := ⟨rfl, rfl⟩
theorem EncodedLength.staAbx (addr : Addr) : EncodedLength.Statement (.staAbx addr) := ⟨rfl, rfl⟩
theorem EncodedLength.staAby (addr : Addr) : EncodedLength.Statement (.staAby addr) := ⟨rfl, rfl⟩
theorem EncodedLength.staIzx (zp : Byte) : EncodedLength.Statement (.staIzx zp) := ⟨rfl, rfl⟩
theorem EncodedLength.staIzy (zp : Byte) : EncodedLength.Statement (.staIzy zp) := ⟨rfl, rfl⟩
theorem EncodedLength.stxZp (zp : Byte) : EncodedLength.Statement (.stxZp zp) := ⟨rfl, rfl⟩
theorem EncodedLength.stxZpy (zp : Byte) : EncodedLength.Statement (.stxZpy zp) := ⟨rfl, rfl⟩
theorem EncodedLength.stxAbs (addr : Addr) : EncodedLength.Statement (.stxAbs addr) := ⟨rfl, rfl⟩
theorem EncodedLength.styZp (zp : Byte) : EncodedLength.Statement (.styZp zp) := ⟨rfl, rfl⟩
theorem EncodedLength.styZpx (zp : Byte) : EncodedLength.Statement (.styZpx zp) := ⟨rfl, rfl⟩
theorem EncodedLength.styAbs (addr : Addr) : EncodedLength.Statement (.styAbs addr) := ⟨rfl, rfl⟩
theorem EncodedLength.tax : EncodedLength.Statement .tax := ⟨rfl, rfl⟩
theorem EncodedLength.tay : EncodedLength.Statement .tay := ⟨rfl, rfl⟩
theorem EncodedLength.txa : EncodedLength.Statement .txa := ⟨rfl, rfl⟩
theorem EncodedLength.tya : EncodedLength.Statement .tya := ⟨rfl, rfl⟩
theorem EncodedLength.tsx : EncodedLength.Statement .tsx := ⟨rfl, rfl⟩
theorem EncodedLength.txs : EncodedLength.Statement .txs := ⟨rfl, rfl⟩
theorem EncodedLength.pha : EncodedLength.Statement .pha := ⟨rfl, rfl⟩
theorem EncodedLength.php : EncodedLength.Statement .php := ⟨rfl, rfl⟩
theorem EncodedLength.pla : EncodedLength.Statement .pla := ⟨rfl, rfl⟩
theorem EncodedLength.plp : EncodedLength.Statement .plp := ⟨rfl, rfl⟩
theorem EncodedLength.andImm (data : Byte) : EncodedLength.Statement (.andImm data) := ⟨rfl, rfl⟩
theorem EncodedLength.andZp (zp : Byte) : EncodedLength.Statement (.andZp zp) := ⟨rfl, rfl⟩
theorem EncodedLength.andZpx (zp : Byte) : EncodedLength.Statement (.andZpx zp) := ⟨rfl, rfl⟩
theorem EncodedLength.andAbs (addr : Addr) : EncodedLength.Statement (.andAbs addr) := ⟨rfl, rfl⟩
theorem EncodedLength.andAbx (addr : Addr) : EncodedLength.Statement (.andAbx addr) := ⟨rfl, rfl⟩
theorem EncodedLength.andAby (addr : Addr) : EncodedLength.Statement (.andAby addr) := ⟨rfl, rfl⟩
theorem EncodedLength.andIzx (zp : Byte) : EncodedLength.Statement (.andIzx zp) := ⟨rfl, rfl⟩
theorem EncodedLength.andIzy (zp : Byte) : EncodedLength.Statement (.andIzy zp) := ⟨rfl, rfl⟩
theorem EncodedLength.oraImm (data : Byte) : EncodedLength.Statement (.oraImm data) := ⟨rfl, rfl⟩
theorem EncodedLength.oraZp (zp : Byte) : EncodedLength.Statement (.oraZp zp) := ⟨rfl, rfl⟩
theorem EncodedLength.oraZpx (zp : Byte) : EncodedLength.Statement (.oraZpx zp) := ⟨rfl, rfl⟩
theorem EncodedLength.oraAbs (addr : Addr) : EncodedLength.Statement (.oraAbs addr) := ⟨rfl, rfl⟩
theorem EncodedLength.oraAbx (addr : Addr) : EncodedLength.Statement (.oraAbx addr) := ⟨rfl, rfl⟩
theorem EncodedLength.oraAby (addr : Addr) : EncodedLength.Statement (.oraAby addr) := ⟨rfl, rfl⟩
theorem EncodedLength.oraIzx (zp : Byte) : EncodedLength.Statement (.oraIzx zp) := ⟨rfl, rfl⟩
theorem EncodedLength.oraIzy (zp : Byte) : EncodedLength.Statement (.oraIzy zp) := ⟨rfl, rfl⟩
theorem EncodedLength.eorImm (data : Byte) : EncodedLength.Statement (.eorImm data) := ⟨rfl, rfl⟩
theorem EncodedLength.eorZp (zp : Byte) : EncodedLength.Statement (.eorZp zp) := ⟨rfl, rfl⟩
theorem EncodedLength.eorZpx (zp : Byte) : EncodedLength.Statement (.eorZpx zp) := ⟨rfl, rfl⟩
theorem EncodedLength.eorAbs (addr : Addr) : EncodedLength.Statement (.eorAbs addr) := ⟨rfl, rfl⟩
theorem EncodedLength.eorAbx (addr : Addr) : EncodedLength.Statement (.eorAbx addr) := ⟨rfl, rfl⟩
theorem EncodedLength.eorAby (addr : Addr) : EncodedLength.Statement (.eorAby addr) := ⟨rfl, rfl⟩
theorem EncodedLength.eorIzx (zp : Byte) : EncodedLength.Statement (.eorIzx zp) := ⟨rfl, rfl⟩
theorem EncodedLength.eorIzy (zp : Byte) : EncodedLength.Statement (.eorIzy zp) := ⟨rfl, rfl⟩
theorem EncodedLength.bitZp (zp : Byte) : EncodedLength.Statement (.bitZp zp) := ⟨rfl, rfl⟩
theorem EncodedLength.bitAbs (addr : Addr) : EncodedLength.Statement (.bitAbs addr) := ⟨rfl, rfl⟩
theorem EncodedLength.adcImm (data : Byte) : EncodedLength.Statement (.adcImm data) := ⟨rfl, rfl⟩
theorem EncodedLength.adcZp (zp : Byte) : EncodedLength.Statement (.adcZp zp) := ⟨rfl, rfl⟩
theorem EncodedLength.adcZpx (zp : Byte) : EncodedLength.Statement (.adcZpx zp) := ⟨rfl, rfl⟩
theorem EncodedLength.adcAbs (addr : Addr) : EncodedLength.Statement (.adcAbs addr) := ⟨rfl, rfl⟩
theorem EncodedLength.adcAbx (addr : Addr) : EncodedLength.Statement (.adcAbx addr) := ⟨rfl, rfl⟩
theorem EncodedLength.adcAby (addr : Addr) : EncodedLength.Statement (.adcAby addr) := ⟨rfl, rfl⟩
theorem EncodedLength.adcIzx (zp : Byte) : EncodedLength.Statement (.adcIzx zp) := ⟨rfl, rfl⟩
theorem EncodedLength.adcIzy (zp : Byte) : EncodedLength.Statement (.adcIzy zp) := ⟨rfl, rfl⟩
theorem EncodedLength.sbcImm (data : Byte) : EncodedLength.Statement (.sbcImm data) := ⟨rfl, rfl⟩
theorem EncodedLength.sbcZp (zp : Byte) : EncodedLength.Statement (.sbcZp zp) := ⟨rfl, rfl⟩
theorem EncodedLength.sbcZpx (zp : Byte) : EncodedLength.Statement (.sbcZpx zp) := ⟨rfl, rfl⟩
theorem EncodedLength.sbcAbs (addr : Addr) : EncodedLength.Statement (.sbcAbs addr) := ⟨rfl, rfl⟩
theorem EncodedLength.sbcAbx (addr : Addr) : EncodedLength.Statement (.sbcAbx addr) := ⟨rfl, rfl⟩
theorem EncodedLength.sbcAby (addr : Addr) : EncodedLength.Statement (.sbcAby addr) := ⟨rfl, rfl⟩
theorem EncodedLength.sbcIzx (zp : Byte) : EncodedLength.Statement (.sbcIzx zp) := ⟨rfl, rfl⟩
theorem EncodedLength.sbcIzy (zp : Byte) : EncodedLength.Statement (.sbcIzy zp) := ⟨rfl, rfl⟩
theorem EncodedLength.cmpImm (data : Byte) : EncodedLength.Statement (.cmpImm data) := ⟨rfl, rfl⟩
theorem EncodedLength.cmpZp (zp : Byte) : EncodedLength.Statement (.cmpZp zp) := ⟨rfl, rfl⟩
theorem EncodedLength.cmpZpx (zp : Byte) : EncodedLength.Statement (.cmpZpx zp) := ⟨rfl, rfl⟩
theorem EncodedLength.cmpAbs (addr : Addr) : EncodedLength.Statement (.cmpAbs addr) := ⟨rfl, rfl⟩
theorem EncodedLength.cmpAbx (addr : Addr) : EncodedLength.Statement (.cmpAbx addr) := ⟨rfl, rfl⟩
theorem EncodedLength.cmpAby (addr : Addr) : EncodedLength.Statement (.cmpAby addr) := ⟨rfl, rfl⟩
theorem EncodedLength.cmpIzx (zp : Byte) : EncodedLength.Statement (.cmpIzx zp) := ⟨rfl, rfl⟩
theorem EncodedLength.cmpIzy (zp : Byte) : EncodedLength.Statement (.cmpIzy zp) := ⟨rfl, rfl⟩
theorem EncodedLength.cpxImm (data : Byte) : EncodedLength.Statement (.cpxImm data) := ⟨rfl, rfl⟩
theorem EncodedLength.cpxZp (zp : Byte) : EncodedLength.Statement (.cpxZp zp) := ⟨rfl, rfl⟩
theorem EncodedLength.cpxAbs (addr : Addr) : EncodedLength.Statement (.cpxAbs addr) := ⟨rfl, rfl⟩
theorem EncodedLength.cpyImm (data : Byte) : EncodedLength.Statement (.cpyImm data) := ⟨rfl, rfl⟩
theorem EncodedLength.cpyZp (zp : Byte) : EncodedLength.Statement (.cpyZp zp) := ⟨rfl, rfl⟩
theorem EncodedLength.cpyAbs (addr : Addr) : EncodedLength.Statement (.cpyAbs addr) := ⟨rfl, rfl⟩
theorem EncodedLength.incZp (zp : Byte) : EncodedLength.Statement (.incZp zp) := ⟨rfl, rfl⟩
theorem EncodedLength.incZpx (zp : Byte) : EncodedLength.Statement (.incZpx zp) := ⟨rfl, rfl⟩
theorem EncodedLength.incAbs (addr : Addr) : EncodedLength.Statement (.incAbs addr) := ⟨rfl, rfl⟩
theorem EncodedLength.incAbx (addr : Addr) : EncodedLength.Statement (.incAbx addr) := ⟨rfl, rfl⟩
theorem EncodedLength.decZp (zp : Byte) : EncodedLength.Statement (.decZp zp) := ⟨rfl, rfl⟩
theorem EncodedLength.decZpx (zp : Byte) : EncodedLength.Statement (.decZpx zp) := ⟨rfl, rfl⟩
theorem EncodedLength.decAbs (addr : Addr) : EncodedLength.Statement (.decAbs addr) := ⟨rfl, rfl⟩
theorem EncodedLength.decAbx (addr : Addr) : EncodedLength.Statement (.decAbx addr) := ⟨rfl, rfl⟩
theorem EncodedLength.inx : EncodedLength.Statement .inx := ⟨rfl, rfl⟩
theorem EncodedLength.iny : EncodedLength.Statement .iny := ⟨rfl, rfl⟩
theorem EncodedLength.dex : EncodedLength.Statement .dex := ⟨rfl, rfl⟩
theorem EncodedLength.dey : EncodedLength.Statement .dey := ⟨rfl, rfl⟩
theorem EncodedLength.aslAcc : EncodedLength.Statement .aslAcc := ⟨rfl, rfl⟩
theorem EncodedLength.aslZp (zp : Byte) : EncodedLength.Statement (.aslZp zp) := ⟨rfl, rfl⟩
theorem EncodedLength.aslZpx (zp : Byte) : EncodedLength.Statement (.aslZpx zp) := ⟨rfl, rfl⟩
theorem EncodedLength.aslAbs (addr : Addr) : EncodedLength.Statement (.aslAbs addr) := ⟨rfl, rfl⟩
theorem EncodedLength.aslAbx (addr : Addr) : EncodedLength.Statement (.aslAbx addr) := ⟨rfl, rfl⟩
theorem EncodedLength.lsrAcc : EncodedLength.Statement .lsrAcc := ⟨rfl, rfl⟩
theorem EncodedLength.lsrZp (zp : Byte) : EncodedLength.Statement (.lsrZp zp) := ⟨rfl, rfl⟩
theorem EncodedLength.lsrZpx (zp : Byte) : EncodedLength.Statement (.lsrZpx zp) := ⟨rfl, rfl⟩
theorem EncodedLength.lsrAbs (addr : Addr) : EncodedLength.Statement (.lsrAbs addr) := ⟨rfl, rfl⟩
theorem EncodedLength.lsrAbx (addr : Addr) : EncodedLength.Statement (.lsrAbx addr) := ⟨rfl, rfl⟩
theorem EncodedLength.rolAcc : EncodedLength.Statement .rolAcc := ⟨rfl, rfl⟩
theorem EncodedLength.rolZp (zp : Byte) : EncodedLength.Statement (.rolZp zp) := ⟨rfl, rfl⟩
theorem EncodedLength.rolZpx (zp : Byte) : EncodedLength.Statement (.rolZpx zp) := ⟨rfl, rfl⟩
theorem EncodedLength.rolAbs (addr : Addr) : EncodedLength.Statement (.rolAbs addr) := ⟨rfl, rfl⟩
theorem EncodedLength.rolAbx (addr : Addr) : EncodedLength.Statement (.rolAbx addr) := ⟨rfl, rfl⟩
theorem EncodedLength.rorAcc : EncodedLength.Statement .rorAcc := ⟨rfl, rfl⟩
theorem EncodedLength.rorZp (zp : Byte) : EncodedLength.Statement (.rorZp zp) := ⟨rfl, rfl⟩
theorem EncodedLength.rorZpx (zp : Byte) : EncodedLength.Statement (.rorZpx zp) := ⟨rfl, rfl⟩
theorem EncodedLength.rorAbs (addr : Addr) : EncodedLength.Statement (.rorAbs addr) := ⟨rfl, rfl⟩
theorem EncodedLength.rorAbx (addr : Addr) : EncodedLength.Statement (.rorAbx addr) := ⟨rfl, rfl⟩
theorem EncodedLength.jmpAbs (addr : Addr) : EncodedLength.Statement (.jmpAbs addr) := ⟨rfl, rfl⟩
theorem EncodedLength.jmpInd (addr : Addr) : EncodedLength.Statement (.jmpInd addr) := ⟨rfl, rfl⟩
theorem EncodedLength.jsr (addr : Addr) : EncodedLength.Statement (.jsr addr) := ⟨rfl, rfl⟩
theorem EncodedLength.rts : EncodedLength.Statement .rts := ⟨rfl, rfl⟩
theorem EncodedLength.bpl (disp : Byte) : EncodedLength.Statement (.bpl disp) := ⟨rfl, rfl⟩
theorem EncodedLength.bmi (disp : Byte) : EncodedLength.Statement (.bmi disp) := ⟨rfl, rfl⟩
theorem EncodedLength.bvc (disp : Byte) : EncodedLength.Statement (.bvc disp) := ⟨rfl, rfl⟩
theorem EncodedLength.bvs (disp : Byte) : EncodedLength.Statement (.bvs disp) := ⟨rfl, rfl⟩
theorem EncodedLength.bcc (disp : Byte) : EncodedLength.Statement (.bcc disp) := ⟨rfl, rfl⟩
theorem EncodedLength.bcs (disp : Byte) : EncodedLength.Statement (.bcs disp) := ⟨rfl, rfl⟩
theorem EncodedLength.bne (disp : Byte) : EncodedLength.Statement (.bne disp) := ⟨rfl, rfl⟩
theorem EncodedLength.beq (disp : Byte) : EncodedLength.Statement (.beq disp) := ⟨rfl, rfl⟩
theorem EncodedLength.clc : EncodedLength.Statement .clc := ⟨rfl, rfl⟩
theorem EncodedLength.sec : EncodedLength.Statement .sec := ⟨rfl, rfl⟩
theorem EncodedLength.cli : EncodedLength.Statement .cli := ⟨rfl, rfl⟩
theorem EncodedLength.sei : EncodedLength.Statement .sei := ⟨rfl, rfl⟩
theorem EncodedLength.clv : EncodedLength.Statement .clv := ⟨rfl, rfl⟩
theorem EncodedLength.cld : EncodedLength.Statement .cld := ⟨rfl, rfl⟩
theorem EncodedLength.sed : EncodedLength.Statement .sed := ⟨rfl, rfl⟩
theorem EncodedLength.nop : EncodedLength.Statement .nop := ⟨rfl, rfl⟩
theorem EncodedLength.brk : EncodedLength.Statement .brk := ⟨rfl, rfl⟩
theorem EncodedLength.rti : EncodedLength.Statement .rti := ⟨rfl, rfl⟩

end Sys2Proof.Laws
end

