-- ==== Sys2Proof/Machine/Disasm.lean ====
section
/-! DEFINITION. The customary assembler syntax of an instruction (spec/30_encoding.md R124). The machine does not use it. -/

namespace Sys2Proof.Machine

/-- A mnemonic in capitals (30_encoding.md R105, R124). -/
def mnemonicText (m : Mnemonic) : String :=
  match m with
  | .adc => "ADC" | .and => "AND" | .asl => "ASL" | .bcc => "BCC" | .bcs => "BCS" | .beq => "BEQ" | .bit => "BIT"
  | .bmi => "BMI" | .bne => "BNE" | .bpl => "BPL" | .brk => "BRK" | .bvc => "BVC" | .bvs => "BVS" | .clc => "CLC"
  | .cld => "CLD" | .cli => "CLI" | .clv => "CLV" | .cmp => "CMP" | .cpx => "CPX" | .cpy => "CPY" | .dec => "DEC"
  | .dex => "DEX" | .dey => "DEY" | .eor => "EOR" | .inc => "INC" | .inx => "INX" | .iny => "INY" | .jmp => "JMP"
  | .jsr => "JSR" | .lda => "LDA" | .ldx => "LDX" | .ldy => "LDY" | .lsr => "LSR" | .nop => "NOP" | .ora => "ORA"
  | .pha => "PHA" | .php => "PHP" | .pla => "PLA" | .plp => "PLP" | .rol => "ROL" | .ror => "ROR" | .rti => "RTI"
  | .rts => "RTS" | .sbc => "SBC" | .sec => "SEC" | .sed => "SED" | .sei => "SEI" | .sta => "STA" | .stx => "STX"
  | .sty => "STY" | .tax => "TAX" | .tay => "TAY" | .tsx => "TSX" | .txa => "TXA" | .txs => "TXS" | .tya => "TYA"

/-- One hexadecimal digit. -/
def hexDigit (n : Nat) : String :=
  match n with
  | 0 => "0" | 1 => "1" | 2 => "2" | 3 => "3" | 4 => "4" | 5 => "5" | 6 => "6" | 7 => "7"
  | 8 => "8" | 9 => "9" | 10 => "A" | 11 => "B" | 12 => "C" | 13 => "D" | 14 => "E" | _ => "F"

/-- `$nn`. -/
def hex8 (v : Byte) : String := "$" ++ hexDigit (v.toNat / 16) ++ hexDigit (v.toNat % 16)

/-- `$nnnn`. -/
def hex16 (v : Addr) : String :=
  "$" ++ hexDigit (v.toNat / 4096) ++ hexDigit (v.toNat / 256 % 16) ++ hexDigit (v.toNat / 16 % 16) ++ hexDigit (v.toNat % 16)

/-- The operand field for a mode, from the operand bytes `b1` and `b2` and the address of the instruction, which a branch's target
is counted from (30_encoding.md R124, R122). -/
def operandText (m : Mode) (b1 b2 : Byte) (pc : Addr) : String :=
  match m with
  | .imp => ""
  | .acc => " A"
  | .imm => " #" ++ hex8 b1
  | .zp => " " ++ hex8 b1
  | .zpx => " " ++ hex8 b1 ++ ",X"
  | .zpy => " " ++ hex8 b1 ++ ",Y"
  | .abs => " " ++ hex16 (word16 b2 b1)
  | .abx => " " ++ hex16 (word16 b2 b1) ++ ",X"
  | .aby => " " ++ hex16 (word16 b2 b1) ++ ",Y"
  | .ind => " (" ++ hex16 (word16 b2 b1) ++ ")"
  | .izx => " (" ++ hex8 b1 ++ ",X)"
  | .izy => " (" ++ hex8 b1 ++ "),Y"
  | .rel => " " ++ hex16 (pc + 2 + sext16 b1)

/-- An instruction at an address, as text (30_encoding.md R124). -/
def disassemble (pc : Addr) (i : Instr) : String :=
  mnemonicText i.mnemonic ++ operandText i.mode ((encode i).getD 1 0) ((encode i).getD 2 0) pc

/-- The displacement byte of a branch at `pc` to `target`, none for a target out of range (30_encoding.md R124, R122). -/
def branchOperand (pc target : Addr) : Option Byte :=
  let d := target - (pc + 2)
  if sext16 (lo8 d) = d then some (lo8 d) else none

end Sys2Proof.Machine
end

