-- ==== Sys2Proof/Tests/Slice0.lean ====
section
/-! SUPPORT. Tests. Expected results come from the spec: the encodings of rule R105, the step vectors of spec/95_test_vectors.md (cited as
V<n>), the examples of the rules. The witnesses of the statements' hypotheses stand at the end. -/

namespace Sys2Proof.Machine

/-! ### Decoding: one word for every row of the opcode table, operand 0x10 or 0x1234, low byte first -/

theorem test_decode_lda :
    decode [0xA9, 0x10] = .ok (.ldaImm 0x10) [] ∧
    decode [0xA5, 0x10] = .ok (.ldaZp 0x10) [] ∧
    decode [0xB5, 0x10] = .ok (.ldaZpx 0x10) [] ∧
    decode [0xAD, 0x34, 0x12] = .ok (.ldaAbs 0x1234) [] ∧
    decode [0xBD, 0x34, 0x12] = .ok (.ldaAbx 0x1234) [] ∧
    decode [0xB9, 0x34, 0x12] = .ok (.ldaAby 0x1234) [] ∧
    decode [0xA1, 0x10] = .ok (.ldaIzx 0x10) [] ∧
    decode [0xB1, 0x10] = .ok (.ldaIzy 0x10) [] := by decide

theorem test_decode_ldx :
    decode [0xA2, 0x10] = .ok (.ldxImm 0x10) [] ∧
    decode [0xA6, 0x10] = .ok (.ldxZp 0x10) [] ∧
    decode [0xB6, 0x10] = .ok (.ldxZpy 0x10) [] ∧
    decode [0xAE, 0x34, 0x12] = .ok (.ldxAbs 0x1234) [] ∧
    decode [0xBE, 0x34, 0x12] = .ok (.ldxAby 0x1234) [] := by decide

theorem test_decode_ldy :
    decode [0xA0, 0x10] = .ok (.ldyImm 0x10) [] ∧
    decode [0xA4, 0x10] = .ok (.ldyZp 0x10) [] ∧
    decode [0xB4, 0x10] = .ok (.ldyZpx 0x10) [] ∧
    decode [0xAC, 0x34, 0x12] = .ok (.ldyAbs 0x1234) [] ∧
    decode [0xBC, 0x34, 0x12] = .ok (.ldyAbx 0x1234) [] := by decide

theorem test_decode_sta :
    decode [0x85, 0x10] = .ok (.staZp 0x10) [] ∧
    decode [0x95, 0x10] = .ok (.staZpx 0x10) [] ∧
    decode [0x8D, 0x34, 0x12] = .ok (.staAbs 0x1234) [] ∧
    decode [0x9D, 0x34, 0x12] = .ok (.staAbx 0x1234) [] ∧
    decode [0x99, 0x34, 0x12] = .ok (.staAby 0x1234) [] ∧
    decode [0x81, 0x10] = .ok (.staIzx 0x10) [] ∧
    decode [0x91, 0x10] = .ok (.staIzy 0x10) [] := by decide

theorem test_decode_stx :
    decode [0x86, 0x10] = .ok (.stxZp 0x10) [] ∧
    decode [0x96, 0x10] = .ok (.stxZpy 0x10) [] ∧
    decode [0x8E, 0x34, 0x12] = .ok (.stxAbs 0x1234) [] := by decide

theorem test_decode_sty :
    decode [0x84, 0x10] = .ok (.styZp 0x10) [] ∧
    decode [0x94, 0x10] = .ok (.styZpx 0x10) [] ∧
    decode [0x8C, 0x34, 0x12] = .ok (.styAbs 0x1234) [] := by decide

theorem test_decode_tax :
    decode [0xAA] = .ok .tax [] := by decide

theorem test_decode_tay :
    decode [0xA8] = .ok .tay [] := by decide

theorem test_decode_txa :
    decode [0x8A] = .ok .txa [] := by decide

theorem test_decode_tya :
    decode [0x98] = .ok .tya [] := by decide

theorem test_decode_tsx :
    decode [0xBA] = .ok .tsx [] := by decide

theorem test_decode_txs :
    decode [0x9A] = .ok .txs [] := by decide

theorem test_decode_pha :
    decode [0x48] = .ok .pha [] := by decide

theorem test_decode_php :
    decode [0x08] = .ok .php [] := by decide

theorem test_decode_pla :
    decode [0x68] = .ok .pla [] := by decide

theorem test_decode_plp :
    decode [0x28] = .ok .plp [] := by decide

theorem test_decode_and :
    decode [0x29, 0x10] = .ok (.andImm 0x10) [] ∧
    decode [0x25, 0x10] = .ok (.andZp 0x10) [] ∧
    decode [0x35, 0x10] = .ok (.andZpx 0x10) [] ∧
    decode [0x2D, 0x34, 0x12] = .ok (.andAbs 0x1234) [] ∧
    decode [0x3D, 0x34, 0x12] = .ok (.andAbx 0x1234) [] ∧
    decode [0x39, 0x34, 0x12] = .ok (.andAby 0x1234) [] ∧
    decode [0x21, 0x10] = .ok (.andIzx 0x10) [] ∧
    decode [0x31, 0x10] = .ok (.andIzy 0x10) [] := by decide

theorem test_decode_ora :
    decode [0x09, 0x10] = .ok (.oraImm 0x10) [] ∧
    decode [0x05, 0x10] = .ok (.oraZp 0x10) [] ∧
    decode [0x15, 0x10] = .ok (.oraZpx 0x10) [] ∧
    decode [0x0D, 0x34, 0x12] = .ok (.oraAbs 0x1234) [] ∧
    decode [0x1D, 0x34, 0x12] = .ok (.oraAbx 0x1234) [] ∧
    decode [0x19, 0x34, 0x12] = .ok (.oraAby 0x1234) [] ∧
    decode [0x01, 0x10] = .ok (.oraIzx 0x10) [] ∧
    decode [0x11, 0x10] = .ok (.oraIzy 0x10) [] := by decide

theorem test_decode_eor :
    decode [0x49, 0x10] = .ok (.eorImm 0x10) [] ∧
    decode [0x45, 0x10] = .ok (.eorZp 0x10) [] ∧
    decode [0x55, 0x10] = .ok (.eorZpx 0x10) [] ∧
    decode [0x4D, 0x34, 0x12] = .ok (.eorAbs 0x1234) [] ∧
    decode [0x5D, 0x34, 0x12] = .ok (.eorAbx 0x1234) [] ∧
    decode [0x59, 0x34, 0x12] = .ok (.eorAby 0x1234) [] ∧
    decode [0x41, 0x10] = .ok (.eorIzx 0x10) [] ∧
    decode [0x51, 0x10] = .ok (.eorIzy 0x10) [] := by decide

theorem test_decode_bit :
    decode [0x24, 0x10] = .ok (.bitZp 0x10) [] ∧
    decode [0x2C, 0x34, 0x12] = .ok (.bitAbs 0x1234) [] := by decide

theorem test_decode_adc :
    decode [0x69, 0x10] = .ok (.adcImm 0x10) [] ∧
    decode [0x65, 0x10] = .ok (.adcZp 0x10) [] ∧
    decode [0x75, 0x10] = .ok (.adcZpx 0x10) [] ∧
    decode [0x6D, 0x34, 0x12] = .ok (.adcAbs 0x1234) [] ∧
    decode [0x7D, 0x34, 0x12] = .ok (.adcAbx 0x1234) [] ∧
    decode [0x79, 0x34, 0x12] = .ok (.adcAby 0x1234) [] ∧
    decode [0x61, 0x10] = .ok (.adcIzx 0x10) [] ∧
    decode [0x71, 0x10] = .ok (.adcIzy 0x10) [] := by decide

theorem test_decode_sbc :
    decode [0xE9, 0x10] = .ok (.sbcImm 0x10) [] ∧
    decode [0xE5, 0x10] = .ok (.sbcZp 0x10) [] ∧
    decode [0xF5, 0x10] = .ok (.sbcZpx 0x10) [] ∧
    decode [0xED, 0x34, 0x12] = .ok (.sbcAbs 0x1234) [] ∧
    decode [0xFD, 0x34, 0x12] = .ok (.sbcAbx 0x1234) [] ∧
    decode [0xF9, 0x34, 0x12] = .ok (.sbcAby 0x1234) [] ∧
    decode [0xE1, 0x10] = .ok (.sbcIzx 0x10) [] ∧
    decode [0xF1, 0x10] = .ok (.sbcIzy 0x10) [] := by decide

theorem test_decode_cmp :
    decode [0xC9, 0x10] = .ok (.cmpImm 0x10) [] ∧
    decode [0xC5, 0x10] = .ok (.cmpZp 0x10) [] ∧
    decode [0xD5, 0x10] = .ok (.cmpZpx 0x10) [] ∧
    decode [0xCD, 0x34, 0x12] = .ok (.cmpAbs 0x1234) [] ∧
    decode [0xDD, 0x34, 0x12] = .ok (.cmpAbx 0x1234) [] ∧
    decode [0xD9, 0x34, 0x12] = .ok (.cmpAby 0x1234) [] ∧
    decode [0xC1, 0x10] = .ok (.cmpIzx 0x10) [] ∧
    decode [0xD1, 0x10] = .ok (.cmpIzy 0x10) [] := by decide

theorem test_decode_cpx :
    decode [0xE0, 0x10] = .ok (.cpxImm 0x10) [] ∧
    decode [0xE4, 0x10] = .ok (.cpxZp 0x10) [] ∧
    decode [0xEC, 0x34, 0x12] = .ok (.cpxAbs 0x1234) [] := by decide

theorem test_decode_cpy :
    decode [0xC0, 0x10] = .ok (.cpyImm 0x10) [] ∧
    decode [0xC4, 0x10] = .ok (.cpyZp 0x10) [] ∧
    decode [0xCC, 0x34, 0x12] = .ok (.cpyAbs 0x1234) [] := by decide

theorem test_decode_inc :
    decode [0xE6, 0x10] = .ok (.incZp 0x10) [] ∧
    decode [0xF6, 0x10] = .ok (.incZpx 0x10) [] ∧
    decode [0xEE, 0x34, 0x12] = .ok (.incAbs 0x1234) [] ∧
    decode [0xFE, 0x34, 0x12] = .ok (.incAbx 0x1234) [] := by decide

theorem test_decode_dec :
    decode [0xC6, 0x10] = .ok (.decZp 0x10) [] ∧
    decode [0xD6, 0x10] = .ok (.decZpx 0x10) [] ∧
    decode [0xCE, 0x34, 0x12] = .ok (.decAbs 0x1234) [] ∧
    decode [0xDE, 0x34, 0x12] = .ok (.decAbx 0x1234) [] := by decide

theorem test_decode_inx :
    decode [0xE8] = .ok .inx [] := by decide

theorem test_decode_iny :
    decode [0xC8] = .ok .iny [] := by decide

theorem test_decode_dex :
    decode [0xCA] = .ok .dex [] := by decide

theorem test_decode_dey :
    decode [0x88] = .ok .dey [] := by decide

theorem test_decode_asl :
    decode [0x0A] = .ok .aslAcc [] ∧
    decode [0x06, 0x10] = .ok (.aslZp 0x10) [] ∧
    decode [0x16, 0x10] = .ok (.aslZpx 0x10) [] ∧
    decode [0x0E, 0x34, 0x12] = .ok (.aslAbs 0x1234) [] ∧
    decode [0x1E, 0x34, 0x12] = .ok (.aslAbx 0x1234) [] := by decide

theorem test_decode_lsr :
    decode [0x4A] = .ok .lsrAcc [] ∧
    decode [0x46, 0x10] = .ok (.lsrZp 0x10) [] ∧
    decode [0x56, 0x10] = .ok (.lsrZpx 0x10) [] ∧
    decode [0x4E, 0x34, 0x12] = .ok (.lsrAbs 0x1234) [] ∧
    decode [0x5E, 0x34, 0x12] = .ok (.lsrAbx 0x1234) [] := by decide

theorem test_decode_rol :
    decode [0x2A] = .ok .rolAcc [] ∧
    decode [0x26, 0x10] = .ok (.rolZp 0x10) [] ∧
    decode [0x36, 0x10] = .ok (.rolZpx 0x10) [] ∧
    decode [0x2E, 0x34, 0x12] = .ok (.rolAbs 0x1234) [] ∧
    decode [0x3E, 0x34, 0x12] = .ok (.rolAbx 0x1234) [] := by decide

theorem test_decode_ror :
    decode [0x6A] = .ok .rorAcc [] ∧
    decode [0x66, 0x10] = .ok (.rorZp 0x10) [] ∧
    decode [0x76, 0x10] = .ok (.rorZpx 0x10) [] ∧
    decode [0x6E, 0x34, 0x12] = .ok (.rorAbs 0x1234) [] ∧
    decode [0x7E, 0x34, 0x12] = .ok (.rorAbx 0x1234) [] := by decide

theorem test_decode_jmp :
    decode [0x4C, 0x34, 0x12] = .ok (.jmpAbs 0x1234) [] ∧
    decode [0x6C, 0x34, 0x12] = .ok (.jmpInd 0x1234) [] := by decide

theorem test_decode_jsr :
    decode [0x20, 0x34, 0x12] = .ok (.jsr 0x1234) [] := by decide

theorem test_decode_rts :
    decode [0x60] = .ok .rts [] := by decide

theorem test_decode_bpl :
    decode [0x10, 0x10] = .ok (.bpl 0x10) [] := by decide

theorem test_decode_bmi :
    decode [0x30, 0x10] = .ok (.bmi 0x10) [] := by decide

theorem test_decode_bvc :
    decode [0x50, 0x10] = .ok (.bvc 0x10) [] := by decide

theorem test_decode_bvs :
    decode [0x70, 0x10] = .ok (.bvs 0x10) [] := by decide

theorem test_decode_bcc :
    decode [0x90, 0x10] = .ok (.bcc 0x10) [] := by decide

theorem test_decode_bcs :
    decode [0xB0, 0x10] = .ok (.bcs 0x10) [] := by decide

theorem test_decode_bne :
    decode [0xD0, 0x10] = .ok (.bne 0x10) [] := by decide

theorem test_decode_beq :
    decode [0xF0, 0x10] = .ok (.beq 0x10) [] := by decide

theorem test_decode_clc :
    decode [0x18] = .ok .clc [] := by decide

theorem test_decode_sec :
    decode [0x38] = .ok .sec [] := by decide

theorem test_decode_cli :
    decode [0x58] = .ok .cli [] := by decide

theorem test_decode_sei :
    decode [0x78] = .ok .sei [] := by decide

theorem test_decode_clv :
    decode [0xB8] = .ok .clv [] := by decide

theorem test_decode_cld :
    decode [0xD8] = .ok .cld [] := by decide

theorem test_decode_sed :
    decode [0xF8] = .ok .sed [] := by decide

theorem test_decode_nop :
    decode [0xEA] = .ok .nop [] := by decide

theorem test_decode_brk :
    decode [0x00] = .ok .brk [] := by decide

theorem test_decode_rti :
    decode [0x40] = .ok .rti [] := by decide

/-! ### One step each, from the vectors of the spec -/

/-- A state with some bytes in memory, `SP` = 0xFD and `PC` as given; everything else as after reset. -/
def cpu (pc : Addr) (cells : List (Addr × Byte)) : State :=
  cells.foldl (fun s c => s.hostWrite c.1 c.2) { State.reset with pc := pc, sp := 0xFD }

/-- A fact about the next state of an outcome. -/
def look {α : Type} (f : State → α) (r : Result) : Option α :=
  match r with
  | .next t => some (f t)
  | _ => none

/-- The fault of an outcome. -/
def stopped (r : Result) : Option Fault :=
  match r with
  | .fault f => some f
  | _ => none

/-- The six flags N, V, D, I, Z, C as one list. -/
def flagList (s : State) : List Bool := [s.flags.n, s.flags.v, s.flags.d, s.flags.i, s.flags.z, s.flags.c]

/-- V40.4: LDA $F0,X. -/
theorem test_v40_4_lda :
    look (fun t => ([t.a], flagList t, t.pc, t.used))
        (step { cpu 0x1000 [(0x0010, 0x11), (0x0110, 0x22), (0x1000, 0xB5), (0x1001, 0xF0)] with x := 0x20 }) =
      some ([0x11], [false, false, false, false, false, false], 0x1002, 4) := by decide

/-- V40.13: LDA ($FF),Y. -/
theorem test_v40_13_lda :
    look (fun t => ([t.a], flagList t, t.pc, t.used))
        (step { cpu 0x1000 [(0x0000, 0x20), (0x00FF, 0x00), (0x1000, 0xB1), (0x1001, 0xFF), (0x2001, 0x5C)] with y := 0x01 }) =
      some ([0x5C], [false, false, false, false, false, false], 0x1002, 5) := by decide

/-- V40.15: LDX #$FF. -/
theorem test_v40_15_ldx :
    look (fun t => ([t.x], flagList t, t.pc, t.used))
        (step (cpu 0x1000 [(0x1000, 0xA2), (0x1001, 0xFF)])) =
      some ([0xFF], [true, false, false, false, false, false], 0x1002, 2) := by decide

/-- V40.17: LDX $12F0,Y. -/
theorem test_v40_17_ldx :
    look (fun t => (flagList t, t.pc, t.used))
        (step { cpu 0x1000 [(0x1000, 0xBE), (0x1001, 0xF0), (0x1002, 0x12), (0x1310, 0x00)] with y := 0x20 }) =
      some ([false, false, false, false, true, false], 0x1003, 5) := by decide

/-- V40.18: LDY #$7F. -/
theorem test_v40_18_ldy :
    look (fun t => ([t.y], flagList t, t.pc, t.used))
        (step (cpu 0x1000 [(0x1000, 0xA0), (0x1001, 0x7F)])) =
      some ([0x7F], [false, false, false, false, false, false], 0x1002, 2) := by decide

/-- V40.20: LDY $12F0,X. -/
theorem test_v40_20_ldy :
    look (fun t => ([t.y], flagList t, t.pc, t.used))
        (step { cpu 0x1000 [(0x1000, 0xBC), (0x1001, 0xF0), (0x1002, 0x12), (0x1300, 0x09)] with x := 0x10 }) =
      some ([0x09], [false, false, false, false, false, false], 0x1003, 5) := by decide

/-- V40.21: STA $D400. -/
theorem test_v40_21_sta :
    look (fun t => ([t.memRead 0xD400], t.pending, flagList t, t.pc, t.used))
        (step { cpu 0x1000 [(0x1000, 0x8D), (0x1001, 0x00), (0x1002, 0xD4)] with a := 0x55 }) =
      some ([0x55], [⟨0, 0xD400, 0x55⟩], [false, false, false, false, false, false], 0x1003, 4) := by decide

/-- V40.26: STA ($20),Y. -/
theorem test_v40_26_sta :
    look (fun t => ([t.memRead 0x1310], flagList t, t.pc, t.used))
        (step { cpu 0x1000 [(0x0020, 0xF0), (0x0021, 0x12), (0x1000, 0x91), (0x1001, 0x20)] with a := 0xEF, y := 0x20 }) =
      some ([0xEF], [false, false, false, false, false, false], 0x1002, 6) := by decide

/-- V40.27: STX $80,Y. -/
theorem test_v40_27_stx :
    look (fun t => ([t.memRead 0x0010], flagList t, t.pc, t.used))
        (step { cpu 0x1000 [(0x1000, 0x96), (0x1001, 0x80)] with x := 0x12, y := 0x90 }) =
      some ([0x12], [false, false, false, false, false, false], 0x1002, 4) := by decide

/-- V40.28: STX $D401. -/
theorem test_v40_28_stx :
    look (fun t => ([t.memRead 0xD401], t.pending, flagList t, t.pc, t.used))
        (step { cpu 0x1000 [(0x1000, 0x8E), (0x1001, 0x01), (0x1002, 0xD4)] with x := 0x10 }) =
      some ([0x10], [⟨0, 0xD401, 0x10⟩], [false, false, false, false, false, false], 0x1003, 4) := by decide

/-- V40.29: STY $10,X. -/
theorem test_v40_29_sty :
    look (fun t => ([t.memRead 0x000F], flagList t, t.pc, t.used))
        (step { cpu 0x1000 [(0x1000, 0x94), (0x1001, 0x10)] with x := 0xFF, y := 0x34 }) =
      some ([0x34], [false, false, false, false, false, false], 0x1002, 4) := by decide

/-- V40.30: STY $D418. -/
theorem test_v40_30_sty :
    look (fun t => ([t.memRead 0xD418], t.pending, flagList t, t.pc, t.used))
        (step { cpu 0x1000 [(0x1000, 0x8C), (0x1001, 0x18), (0x1002, 0xD4)] with y := 0x0F }) =
      some ([0x0F], [⟨0, 0xD418, 0x0F⟩], [false, false, false, false, false, false], 0x1003, 4) := by decide

/-- V40.31: TAX. -/
theorem test_v40_31_tax :
    look (fun t => ([t.x], flagList t, t.pc, t.used))
        (step { cpu 0x1000 [(0x1000, 0xAA)] with a := 0x80, x := 0x01 }) =
      some ([0x80], [true, false, false, false, false, false], 0x1001, 2) := by decide

/-- V40.32: TAY. -/
theorem test_v40_32_tay :
    look (fun t => ([t.y], flagList t, t.pc, t.used))
        (step { cpu 0x1000 [(0x1000, 0xA8)] with a := 0x00, y := 0x01 }) =
      some ([0x00], [false, false, false, false, true, false], 0x1001, 2) := by decide

/-- V40.33: TXA. -/
theorem test_v40_33_txa :
    look (fun t => ([t.a], flagList t, t.pc, t.used))
        (step { cpu 0x1000 [(0x1000, 0x8A)] with a := 0xFF, x := 0x7F, flags := ⟨true, false, false, false, false, false⟩ }) =
      some ([0x7F], [false, false, false, false, false, false], 0x1001, 2) := by decide

/-- V40.34: TYA. -/
theorem test_v40_34_tya :
    look (fun t => ([t.a], flagList t, t.pc, t.used))
        (step { cpu 0x1000 [(0x1000, 0x98)] with y := 0xFF }) =
      some ([0xFF], [true, false, false, false, false, false], 0x1001, 2) := by decide

/-- V40.35: TSX. -/
theorem test_v40_35_tsx :
    look (fun t => ([t.x], flagList t, t.pc, t.used))
        (step (cpu 0x1000 [(0x1000, 0xBA)])) =
      some ([0xFD], [true, false, false, false, false, false], 0x1001, 2) := by decide

/-- V40.36: TXS. -/
theorem test_v40_36_txs :
    look (fun t => ([t.sp], flagList t, t.pc, t.used))
        (step { cpu 0x1000 [(0x1000, 0x9A)] with x := 0x00, flags := ⟨true, false, false, false, false, false⟩ }) =
      some ([0x00], [true, false, false, false, false, false], 0x1001, 2) := by decide

/-- V40.37: TXS. -/
theorem test_v40_37_txs :
    look (fun t => ([t.sp], flagList t, t.pc, t.used))
        (step { cpu 0x1000 [(0x1000, 0x9A)] with x := 0x80 }) =
      some ([0x80], [false, false, false, false, false, false], 0x1001, 2) := by decide

/-- V41.1: PHA. -/
theorem test_v41_1_pha :
    look (fun t => ([t.sp, t.memRead 0x01FD], flagList t, t.pc, t.used))
        (step { cpu 0x1000 [(0x1000, 0x48)] with a := 0x42 }) =
      some ([0xFC, 0x42], [false, false, false, false, false, false], 0x1001, 3) := by decide

/-- V41.2: PHA. -/
theorem test_v41_2_pha :
    look (fun t => ([t.sp, t.memRead 0x0100], flagList t, t.pc, t.used))
        (step { cpu 0x1000 [(0x1000, 0x48)] with a := 0x42, sp := 0x00 }) =
      some ([0xFF, 0x42], [false, false, false, false, false, false], 0x1001, 3) := by decide

/-- V41.4: PHP. -/
theorem test_v41_4_php :
    look (fun t => ([t.sp, t.memRead 0x01FD], flagList t, t.pc, t.used))
        (step { cpu 0x1000 [(0x1000, 0x08)] with flags := ⟨true, false, false, false, false, true⟩ }) =
      some ([0xFC, 0xB1], [true, false, false, false, false, true], 0x1001, 3) := by decide

/-- V41.5: PHP. -/
theorem test_v41_5_php :
    look (fun t => ([t.sp, t.memRead 0x01FD], flagList t, t.pc, t.used))
        (step { cpu 0x1000 [(0x1000, 0x08)] with flags := ⟨true, true, true, true, true, true⟩ }) =
      some ([0xFC, 0xFF], [true, true, true, true, true, true], 0x1001, 3) := by decide

/-- V41.6: PLA. -/
theorem test_v41_6_pla :
    look (fun t => ([t.a, t.sp], flagList t, t.pc, t.used))
        (step { cpu 0x1000 [(0x01FD, 0x00), (0x1000, 0x68)] with a := 0x55, sp := 0xFC }) =
      some ([0x00, 0xFD], [false, false, false, false, true, false], 0x1001, 4) := by decide

/-- V41.7: PLA. -/
theorem test_v41_7_pla :
    look (fun t => ([t.a, t.sp], flagList t, t.pc, t.used))
        (step { cpu 0x1000 [(0x0100, 0x80), (0x1000, 0x68)] with sp := 0xFF }) =
      some ([0x80, 0x00], [true, false, false, false, false, false], 0x1001, 4) := by decide

/-- V41.9: PLP. -/
theorem test_v41_9_plp :
    look (fun t => ([t.sp], flagList t, t.pc, t.used))
        (step { cpu 0x1000 [(0x01FD, 0x00), (0x1000, 0x28)] with sp := 0xFC, flags := ⟨true, true, true, true, true, true⟩ }) =
      some ([0xFD], [false, false, false, false, false, false], 0x1001, 4) := by decide

/-- V41.11: PLP. -/
theorem test_v41_11_plp :
    look (fun t => ([t.sp], flagList t, t.pc, t.used))
        (step { cpu 0x1000 [(0x01FD, 0xC3), (0x1000, 0x28)] with sp := 0xFC }) =
      some ([0xFD], [true, true, false, false, true, true], 0x1001, 4) := by decide

/-- V48.17: AND $3080,X. -/
theorem test_v48_17_and :
    look (fun t => ([t.a], flagList t, t.pc, t.used))
        (step { cpu 0x1000 [(0x1000, 0x3D), (0x1001, 0x80), (0x1002, 0x30), (0x3105, 0x96)] with a := 0x35, x := 0x85 }) =
      some ([0x14], [false, false, false, false, false, false], 0x1003, 5) := by decide

/-- V48.12: AND $3080. -/
theorem test_v48_12_and :
    look (fun t => ([t.a], flagList t, t.pc, t.used))
        (step { cpu 0x1000 [(0x1000, 0x2D), (0x1001, 0x80), (0x1002, 0x30), (0x3080, 0x96)] with a := 0x35 }) =
      some ([0x14], [false, false, false, false, false, false], 0x1003, 4) := by decide

/-- V48.8: ORA $3080,X. -/
theorem test_v48_8_ora :
    look (fun t => ([t.a], flagList t, t.pc, t.used))
        (step { cpu 0x1000 [(0x1000, 0x1D), (0x1001, 0x80), (0x1002, 0x30), (0x3105, 0x96)] with a := 0x35, x := 0x85 }) =
      some ([0xB7], [true, false, false, false, false, false], 0x1003, 5) := by decide

/-- V48.4: ORA ($40),Y. -/
theorem test_v48_4_ora :
    look (fun t => ([t.a], flagList t, t.pc, t.used))
        (step { cpu 0x1000 [(0x0040, 0x80), (0x0041, 0x30), (0x1000, 0x11), (0x1001, 0x40), (0x3105, 0x96)] with a := 0x35, y := 0x85 }) =
      some ([0xB7], [true, false, false, false, false, false], 0x1002, 6) := by decide

/-- V48.26: EOR $3080,X. -/
theorem test_v48_26_eor :
    look (fun t => ([t.a], flagList t, t.pc, t.used))
        (step { cpu 0x1000 [(0x1000, 0x5D), (0x1001, 0x80), (0x1002, 0x30), (0x3105, 0x96)] with a := 0x35, x := 0x85 }) =
      some ([0xA3], [true, false, false, false, false, false], 0x1003, 5) := by decide

/-- V48.22: EOR $3080. -/
theorem test_v48_22_eor :
    look (fun t => ([t.a], flagList t, t.pc, t.used))
        (step { cpu 0x1000 [(0x1000, 0x4D), (0x1001, 0x80), (0x1002, 0x30), (0x3080, 0x96)] with a := 0x35 }) =
      some ([0xA3], [true, false, false, false, false, false], 0x1003, 4) := by decide

/-- V42.9: BIT $D404. -/
theorem test_v42_9_bit :
    look (fun t => (flagList t, t.pc, t.used))
        (step { cpu 0x1000 [(0x1000, 0x2C), (0x1001, 0x04), (0x1002, 0xD4), (0xD404, 0x41)] with a := 0x01 }) =
      some ([false, true, false, false, false, false], 0x1003, 4) := by decide

/-- V42.8: BIT $10. -/
theorem test_v42_8_bit :
    look (fun t => (flagList t, t.pc, t.used))
        (step { cpu 0x1000 [(0x0010, 0x3F), (0x1000, 0x24), (0x1001, 0x10)] with a := 0x01, flags := ⟨true, true, false, false, true, false⟩ }) =
      some ([false, false, false, false, false, false], 0x1002, 3) := by decide

/-- V42.10: ADC #$50. -/
theorem test_v42_10_adc :
    look (fun t => ([t.a], flagList t, t.pc, t.used))
        (step { cpu 0x1000 [(0x1000, 0x69), (0x1001, 0x50)] with a := 0x50 }) =
      some ([0xA0], [true, true, false, false, false, false], 0x1002, 2) := by decide

/-- V42.19: SBC #$B0. -/
theorem test_v42_19_sbc :
    look (fun t => ([t.a], flagList t, t.pc, t.used))
        (step { cpu 0x1000 [(0x1000, 0xE9), (0x1001, 0xB0)] with a := 0x50, flags := ⟨false, false, false, false, false, true⟩ }) =
      some ([0xA0], [true, true, false, false, false, false], 0x1002, 2) := by decide

/-- V42.27: CMP #$41. -/
theorem test_v42_27_cmp :
    look (fun t => (flagList t, t.pc, t.used))
        (step { cpu 0x1000 [(0x1000, 0xC9), (0x1001, 0x41)] with a := 0x40, flags := ⟨false, true, false, false, false, true⟩ }) =
      some ([true, true, false, false, false, false], 0x1002, 2) := by decide

/-- V42.28: CMP #$7F. -/
theorem test_v42_28_cmp :
    look (fun t => (flagList t, t.pc, t.used))
        (step { cpu 0x1000 [(0x1000, 0xC9), (0x1001, 0x7F)] with a := 0x80 }) =
      some ([false, false, false, false, false, true], 0x1002, 2) := by decide

/-- V48.55: CPX $3080. -/
theorem test_v48_55_cpx :
    look (fun t => (flagList t, t.pc, t.used))
        (step { cpu 0x1000 [(0x1000, 0xEC), (0x1001, 0x80), (0x1002, 0x30), (0x3080, 0x96)] with x := 0x35 }) =
      some ([true, false, false, false, false, false], 0x1003, 4) := by decide

/-- V42.31: CPX $10. -/
theorem test_v42_31_cpx :
    look (fun t => (flagList t, t.pc, t.used))
        (step { cpu 0x1000 [(0x0010, 0x05), (0x1000, 0xE4), (0x1001, 0x10)] with x := 0x05 }) =
      some ([false, false, false, false, true, true], 0x1002, 3) := by decide

/-- V48.44: CPY $40. -/
theorem test_v48_44_cpy :
    look (fun t => (flagList t, t.pc, t.used))
        (step { cpu 0x1000 [(0x0040, 0x96), (0x1000, 0xC4), (0x1001, 0x40)] with y := 0x35 }) =
      some ([true, false, false, false, false, false], 0x1002, 3) := by decide

/-- V42.33: CPY $1234. -/
theorem test_v42_33_cpy :
    look (fun t => (flagList t, t.pc, t.used))
        (step { cpu 0x1000 [(0x1000, 0xCC), (0x1001, 0x34), (0x1002, 0x12), (0x1234, 0x01)] with y := 0x00 }) =
      some ([true, false, false, false, false, false], 0x1003, 4) := by decide

/-- V48.57: INC $40,X. -/
theorem test_v48_57_inc :
    look (fun t => ([t.memRead 0x0005], flagList t, t.pc, t.used))
        (step { cpu 0x1000 [(0x0005, 0x96), (0x1000, 0xF6), (0x1001, 0x40)] with a := 0x35, x := 0xC5 }) =
      some ([0x97], [true, false, false, false, false, false], 0x1002, 6) := by decide

/-- V43.3: INC $D404. -/
theorem test_v43_3_inc :
    look (fun t => ([t.memRead 0xD404], t.pending, flagList t, t.pc, t.used))
        (step (cpu 0x1000 [(0x1000, 0xEE), (0x1001, 0x04), (0x1002, 0xD4), (0xD404, 0x40)])) =
      some ([0x41], [⟨0, 0xD404, 0x41⟩], [false, false, false, false, false, false], 0x1003, 6) := by decide

/-- V48.52: DEC $3080,X. -/
theorem test_v48_52_dec :
    look (fun t => ([t.memRead 0x3105], flagList t, t.pc, t.used))
        (step { cpu 0x1000 [(0x1000, 0xDE), (0x1001, 0x80), (0x1002, 0x30), (0x3105, 0x96)] with a := 0x35, x := 0x85 }) =
      some ([0x95], [true, false, false, false, false, false], 0x1003, 7) := by decide

/-- V48.47: DEC $3080. -/
theorem test_v48_47_dec :
    look (fun t => ([t.memRead 0x3080], flagList t, t.pc, t.used))
        (step { cpu 0x1000 [(0x1000, 0xCE), (0x1001, 0x80), (0x1002, 0x30), (0x3080, 0x96)] with a := 0x35 }) =
      some ([0x95], [true, false, false, false, false, false], 0x1003, 6) := by decide

/-- V43.7: INX. -/
theorem test_v43_7_inx :
    look (fun t => ([t.x], flagList t, t.pc, t.used))
        (step { cpu 0x1000 [(0x1000, 0xE8)] with x := 0xFF }) =
      some ([0x00], [false, false, false, false, true, false], 0x1001, 2) := by decide

/-- V43.8: INY. -/
theorem test_v43_8_iny :
    look (fun t => ([t.y], flagList t, t.pc, t.used))
        (step { cpu 0x1000 [(0x1000, 0xC8)] with y := 0x7F }) =
      some ([0x80], [true, false, false, false, false, false], 0x1001, 2) := by decide

/-- V43.9: DEX. -/
theorem test_v43_9_dex :
    look (fun t => ([t.x], flagList t, t.pc, t.used))
        (step { cpu 0x1000 [(0x1000, 0xCA)] with x := 0x00 }) =
      some ([0xFF], [true, false, false, false, false, false], 0x1001, 2) := by decide

/-- V43.10: DEY. -/
theorem test_v43_10_dey :
    look (fun t => ([t.y], flagList t, t.pc, t.used))
        (step { cpu 0x1000 [(0x1000, 0x88)] with y := 0x01 }) =
      some ([0x00], [false, false, false, false, true, false], 0x1001, 2) := by decide

/-- V48.6: ASL $40,X. -/
theorem test_v48_6_asl :
    look (fun t => ([t.memRead 0x0005], flagList t, t.pc, t.used))
        (step { cpu 0x1000 [(0x0005, 0x96), (0x1000, 0x16), (0x1001, 0x40)] with a := 0x35, x := 0xC5 }) =
      some ([0x2C], [false, false, false, false, false, true], 0x1002, 6) := by decide

/-- V43.13: ASL $12F0,X. -/
theorem test_v43_13_asl :
    look (fun t => ([t.memRead 0x1310], flagList t, t.pc, t.used))
        (step { cpu 0x1000 [(0x1000, 0x1E), (0x1001, 0xF0), (0x1002, 0x12), (0x1310, 0xC0)] with x := 0x20 }) =
      some ([0x80], [true, false, false, false, false, true], 0x1003, 7) := by decide

/-- V48.27: LSR $3080,X. -/
theorem test_v48_27_lsr :
    look (fun t => ([t.memRead 0x3105], flagList t, t.pc, t.used))
        (step { cpu 0x1000 [(0x1000, 0x5E), (0x1001, 0x80), (0x1002, 0x30), (0x3105, 0x96)] with a := 0x35, x := 0x85 }) =
      some ([0x4B], [false, false, false, false, false, false], 0x1003, 7) := by decide

/-- V48.21: LSR $40. -/
theorem test_v48_21_lsr :
    look (fun t => ([t.memRead 0x0040], flagList t, t.pc, t.used))
        (step { cpu 0x1000 [(0x0040, 0x96), (0x1000, 0x46), (0x1001, 0x40)] with a := 0x35 }) =
      some ([0x4B], [false, false, false, false, false, false], 0x1002, 5) := by decide

/-- V48.18: ROL $3080,X. -/
theorem test_v48_18_rol :
    look (fun t => ([t.memRead 0x3105], flagList t, t.pc, t.used))
        (step { cpu 0x1000 [(0x1000, 0x3E), (0x1001, 0x80), (0x1002, 0x30), (0x3105, 0x96)] with a := 0x35, x := 0x85, flags := ⟨false, false, false, false, false, true⟩ }) =
      some ([0x2D], [false, false, false, false, false, true], 0x1003, 7) := by decide

/-- V48.11: ROL $40. -/
theorem test_v48_11_rol :
    look (fun t => ([t.memRead 0x0040], flagList t, t.pc, t.used))
        (step { cpu 0x1000 [(0x0040, 0x96), (0x1000, 0x26), (0x1001, 0x40)] with a := 0x35, flags := ⟨false, false, false, false, false, true⟩ }) =
      some ([0x2D], [false, false, false, false, false, true], 0x1002, 5) := by decide

/-- V48.35: ROR $3080,X. -/
theorem test_v48_35_ror :
    look (fun t => ([t.memRead 0x3105], flagList t, t.pc, t.used))
        (step { cpu 0x1000 [(0x1000, 0x7E), (0x1001, 0x80), (0x1002, 0x30), (0x3105, 0x96)] with a := 0x35, x := 0x85, flags := ⟨false, false, false, false, false, true⟩ }) =
      some ([0xCB], [true, false, false, false, false, false], 0x1003, 7) := by decide

/-- V48.30: ROR $3080. -/
theorem test_v48_30_ror :
    look (fun t => ([t.memRead 0x3080], flagList t, t.pc, t.used))
        (step { cpu 0x1000 [(0x1000, 0x6E), (0x1001, 0x80), (0x1002, 0x30), (0x3080, 0x96)] with a := 0x35, flags := ⟨false, false, false, false, false, true⟩ }) =
      some ([0xCB], [true, false, false, false, false, false], 0x1003, 6) := by decide

/-- V44.4: JMP $1000. -/
theorem test_v44_4_jmp :
    look (fun t => (flagList t, t.pc, t.used))
        (step (cpu 0x1000 [(0x1000, 0x4C), (0x1001, 0x00), (0x1002, 0x10)])) =
      some ([false, false, false, false, false, false], 0x1000, 3) := by decide

/-- V44.3: JMP ($12FF). -/
theorem test_v44_3_jmp :
    look (fun t => (flagList t, t.pc, t.used))
        (step (cpu 0x1000 [(0x1000, 0x6C), (0x1001, 0xFF), (0x1002, 0x12), (0x1200, 0x56), (0x12FF, 0x34), (0x1300, 0x78)])) =
      some ([false, false, false, false, false, false], 0x5634, 5) := by decide

/-- V44.7: JSR $0000. -/
theorem test_v44_7_jsr :
    look (fun t => ([t.sp, t.memRead 0x01FD, t.memRead 0x01FC], flagList t, t.pc, t.used))
        (step (cpu 0xFFFE [(0x0000, 0x00), (0xFFFE, 0x20), (0xFFFF, 0x00)])) =
      some ([0xFB, 0x00, 0x00], [false, false, false, false, false, false], 0x0000, 6) := by decide

/-- V44.6: JSR $2000. -/
theorem test_v44_6_jsr :
    look (fun t => ([t.sp, t.memRead 0x0100, t.memRead 0x01FF], flagList t, t.pc, t.used))
        (step { cpu 0x1000 [(0x1000, 0x20), (0x1001, 0x00), (0x1002, 0x20)] with sp := 0x00 }) =
      some ([0xFE, 0x10, 0x02], [false, false, false, false, false, false], 0x2000, 6) := by decide

/-- V44.10: RTS. -/
theorem test_v44_10_rts :
    look (fun t => ([t.sp], flagList t, t.pc, t.used))
        (step (cpu 0x2000 [(0x01FE, 0xFF), (0x01FF, 0xFF), (0x2000, 0x60)])) =
      some ([0xFF], [false, false, false, false, false, false], 0x0000, 6) := by decide

/-- V44.9: RTS. -/
theorem test_v44_9_rts :
    look (fun t => ([t.sp], flagList t, t.pc, t.used))
        (step (cpu 0x2000 [(0x01FE, 0xEF), (0x01FF, 0xFF), (0x2000, 0x60)])) =
      some ([0xFF], [false, false, false, false, false, false], 0xFFF0, 6) := by decide

/-- V44.12: BPL +5. -/
theorem test_v44_12_bpl :
    look (fun t => (flagList t, t.pc, t.used))
        (step { cpu 0x1000 [(0x1000, 0x10), (0x1001, 0x05)] with flags := ⟨true, false, false, false, false, false⟩ }) =
      some ([true, false, false, false, false, false], 0x1002, 2) := by decide

/-- V44.11: BPL +5. -/
theorem test_v44_11_bpl :
    look (fun t => (flagList t, t.pc, t.used))
        (step (cpu 0x1000 [(0x1000, 0x10), (0x1001, 0x05)])) =
      some ([false, false, false, false, false, false], 0x1007, 3) := by decide

/-- V44.13: BMI -4. -/
theorem test_v44_13_bmi :
    look (fun t => (flagList t, t.pc, t.used))
        (step { cpu 0x1010 [(0x1010, 0x30), (0x1011, 0xFC)] with flags := ⟨true, false, false, false, false, false⟩ }) =
      some ([true, false, false, false, false, false], 0x100E, 3) := by decide

/-- V44.14: BVC +16. -/
theorem test_v44_14_bvc :
    look (fun t => (flagList t, t.pc, t.used))
        (step (cpu 0x2000 [(0x2000, 0x50), (0x2001, 0x10)])) =
      some ([false, false, false, false, false, false], 0x2012, 3) := by decide

/-- V44.16: BVS +16. -/
theorem test_v44_16_bvs :
    look (fun t => (flagList t, t.pc, t.used))
        (step { cpu 0x2000 [(0x2000, 0x70), (0x2001, 0x10)] with flags := ⟨false, true, false, false, false, false⟩ }) =
      some ([false, true, false, false, false, false], 0x2012, 3) := by decide

/-- V44.15: BVS +16. -/
theorem test_v44_15_bvs :
    look (fun t => (flagList t, t.pc, t.used))
        (step (cpu 0x2000 [(0x2000, 0x70), (0x2001, 0x10)])) =
      some ([false, false, false, false, false, false], 0x2002, 2) := by decide

/-- V44.25: BCC -3. -/
theorem test_v44_25_bcc :
    look (fun t => (flagList t, t.pc, t.used))
        (step (cpu 0x0000 [(0x0000, 0x90), (0x0001, 0xFD)])) =
      some ([false, false, false, false, false, false], 0xFFFF, 4) := by decide

/-- V44.17: BCC +127. -/
theorem test_v44_17_bcc :
    look (fun t => (flagList t, t.pc, t.used))
        (step (cpu 0x10F0 [(0x10F0, 0x90), (0x10F1, 0x7F)])) =
      some ([false, false, false, false, false, false], 0x1171, 4) := by decide

/-- V44.18: BCS +2. -/
theorem test_v44_18_bcs :
    look (fun t => (flagList t, t.pc, t.used))
        (step { cpu 0x3000 [(0x3000, 0xB0), (0x3001, 0x02)] with flags := ⟨false, false, false, false, false, true⟩ }) =
      some ([false, false, false, false, false, true], 0x3004, 3) := by decide

/-- V44.21: BNE -128. -/
theorem test_v44_21_bne :
    look (fun t => (flagList t, t.pc, t.used))
        (step (cpu 0x1000 [(0x1000, 0xD0), (0x1001, 0x80)])) =
      some ([false, false, false, false, false, false], 0x0F82, 4) := by decide

/-- V44.20: BNE -7. -/
theorem test_v44_20_bne :
    look (fun t => (flagList t, t.pc, t.used))
        (step (cpu 0x10FE [(0x10FE, 0xD0), (0x10FF, 0xF9)])) =
      some ([false, false, false, false, false, false], 0x10F9, 4) := by decide

/-- V44.24: BEQ +32. -/
theorem test_v44_24_beq :
    look (fun t => (flagList t, t.pc, t.used))
        (step { cpu 0xFFF0 [(0xFFF0, 0xF0), (0xFFF1, 0x20)] with flags := ⟨false, false, false, false, true, false⟩ }) =
      some ([false, false, false, false, true, false], 0x0012, 4) := by decide

/-- V44.23: BEQ +0. -/
theorem test_v44_23_beq :
    look (fun t => (flagList t, t.pc, t.used))
        (step { cpu 0x1000 [(0x1000, 0xF0), (0x1001, 0x00)] with flags := ⟨false, false, false, false, true, false⟩ }) =
      some ([false, false, false, false, true, false], 0x1002, 3) := by decide

/-- V45.1: CLC. -/
theorem test_v45_1_clc :
    look (fun t => (flagList t, t.pc, t.used))
        (step { cpu 0x1000 [(0x1000, 0x18)] with flags := ⟨false, false, false, false, false, true⟩ }) =
      some ([false, false, false, false, false, false], 0x1001, 2) := by decide

/-- V45.9: SEC. -/
theorem test_v45_9_sec :
    look (fun t => (flagList t, t.pc, t.used))
        (step { cpu 0x1000 [(0x1000, 0x38)] with flags := ⟨false, false, false, false, false, true⟩ }) =
      some ([false, false, false, false, false, true], 0x1001, 2) := by decide

/-- V45.2: SEC. -/
theorem test_v45_2_sec :
    look (fun t => (flagList t, t.pc, t.used))
        (step (cpu 0x1000 [(0x1000, 0x38)])) =
      some ([false, false, false, false, false, true], 0x1001, 2) := by decide

/-- V45.3: CLI. -/
theorem test_v45_3_cli :
    look (fun t => (flagList t, t.pc, t.used))
        (step { cpu 0x1000 [(0x1000, 0x58)] with flags := ⟨false, false, false, true, false, false⟩ }) =
      some ([false, false, false, false, false, false], 0x1001, 2) := by decide

/-- V45.4: SEI. -/
theorem test_v45_4_sei :
    look (fun t => (flagList t, t.pc, t.used))
        (step (cpu 0x1000 [(0x1000, 0x78)])) =
      some ([false, false, false, true, false, false], 0x1001, 2) := by decide

/-- V45.5: CLV. -/
theorem test_v45_5_clv :
    look (fun t => (flagList t, t.pc, t.used))
        (step { cpu 0x1000 [(0x1000, 0xB8)] with flags := ⟨false, true, false, false, false, false⟩ }) =
      some ([false, false, false, false, false, false], 0x1001, 2) := by decide

/-- V45.6: CLD. -/
theorem test_v45_6_cld :
    look (fun t => (flagList t, t.pc, t.used))
        (step { cpu 0x1000 [(0x1000, 0xD8)] with flags := ⟨false, false, true, false, false, false⟩ }) =
      some ([false, false, false, false, false, false], 0x1001, 2) := by decide

/-- V45.7: SED. -/
theorem test_v45_7_sed :
    look (fun t => (flagList t, t.pc, t.used))
        (step (cpu 0x1000 [(0x1000, 0xF8)])) =
      some ([false, false, true, false, false, false], 0x1001, 2) := by decide

/-- V45.8: NOP. -/
theorem test_v45_8_nop :
    look (fun t => (flagList t, t.pc, t.used))
        (step (cpu 0xFFFF [(0xFFFF, 0xEA)])) =
      some ([false, false, false, false, false, false], 0x0000, 2) := by decide

/-- V46.4: BRK. -/
theorem test_v46_4_brk :
    look (fun t => ([t.sp, t.memRead 0x0101, t.memRead 0x0100, t.memRead 0x01FF], flagList t, t.pc, t.used))
        (step { cpu 0xFFFF [(0xFFFE, 0x34), (0xFFFF, 0x00)] with sp := 0x01 }) =
      some ([0xFE, 0x00, 0x01, 0x30], [false, false, false, true, false, false], 0x0034, 7) := by decide

/-- V46.3: BRK. -/
theorem test_v46_3_brk :
    look (fun t => ([t.sp, t.memRead 0x01FD, t.memRead 0x01FC, t.memRead 0x01FB], flagList t, t.pc, t.used))
        (step { cpu 0x1000 [(0x1000, 0x00), (0xFFFE, 0xF0), (0xFFFF, 0xFF)] with flags := ⟨true, true, true, true, true, true⟩ }) =
      some ([0xFA, 0x10, 0x02, 0xFF], [true, true, true, true, true, true], 0xFFF0, 7) := by decide

/-- V46.7: RTI. -/
theorem test_v46_7_rti :
    look (fun t => ([t.sp], flagList t, t.pc, t.used))
        (step { cpu 0x3000 [(0x0100, 0x00), (0x0101, 0x80), (0x01FF, 0x01), (0x3000, 0x40)] with sp := 0xFE }) =
      some ([0x01], [false, false, false, false, false, true], 0x8000, 6) := by decide

/-- V46.6: RTI. -/
theorem test_v46_6_rti :
    look (fun t => ([t.sp], flagList t, t.pc, t.used))
        (step { cpu 0x3000 [(0x01FB, 0xCF), (0x01FC, 0xEF), (0x01FD, 0xFF), (0x3000, 0x40)] with sp := 0xFA }) =
      some ([0xFD], [true, true, true, true, true, true], 0xFFEF, 6) := by decide

/-- V42.17: ADC #$01. -/
theorem test_v42_17_adc :
    stopped (step { cpu 0x1000 [(0x1000, 0x69), (0x1001, 0x01)] with a := 0x09, flags := ⟨false, false, true, false, false, false⟩ }) =
      some (.unsupportedOpcode 0x1000 0x69) := by decide

/-- V42.25: SBC #$01. -/
theorem test_v42_25_sbc :
    stopped (step { cpu 0x1000 [(0x1000, 0xE9), (0x1001, 0x01)] with a := 0x10, flags := ⟨false, false, true, false, false, true⟩ }) =
      some (.unsupportedOpcode 0x1000 0xE9) := by decide

/-- V60.1: (undefined 0x02). -/
theorem test_v60_1_undefined :
    stopped (step (cpu 0x1000 [(0x1000, 0x02)])) =
      some (.unsupportedOpcode 0x1000 0x02) := by decide

/-! ### The host's two entries, disassembly, well-formedness -/

theorem test_decodeTableWord_abs : decodeTableWord 24 0x1234AD = some (.ldaAbs 0x1234) := by decide

theorem test_decodeTableWord_short : decodeTableWord 8 0x8D = some (.staAbs 0x0000) := by decide

theorem test_decodeTableWord_undefined : decodeTableWord 8 0x02 = none := by decide

theorem test_withFetchWord_runs :
    look (fun t => (t.a, t.pc, t.used)) (step (State.reset.withFetchWord 16 0x42A9)) = some (0x42, 0x0002, 2) := by decide

/-- 30_encoding.md R124: the branch prints its target; 44_control_flow.md R211. -/
theorem test_disassemble :
    disassemble 0x1000 (.bne 0xF9) = "BNE $0FFB" ∧ disassemble 0x1000 (.jmpInd 0x12FF) = "JMP ($12FF)" ∧
    disassemble 0x1000 (.ldaIzx 0x10) = "LDA ($10,X)" ∧ disassemble 0x1000 .rolAcc = "ROL A" := by decide

/-- 30_encoding.md R124: `BNE $1000` at 0x1005 has the displacement 0xF9; 0x1087 is one byte too far. -/
theorem test_branchOperand :
    branchOperand 0x1005 0x1000 = some 0xF9 ∧ branchOperand 0x1005 0x1086 = some 0x7F ∧ branchOperand 0x1005 0x1087 = none := by
  decide

/-- No term of `Instr` is ill-formed: an operand of any value is legal (30_encoding.md R109). -/
theorem test_wf_every_instruction : ∀ i : Instr, i.wf = true := fun _ => rfl

/-- A payload of one byte at an address, one frame, both entries there. -/
def tiny (addr : Addr) (payload : List Byte) (frames : Nat) : Launch := ⟨addr, payload, addr, addr, frames⟩

theorem test_wf_accepts_end_at_top : (tiny 0xFFFF [0x60] 1).wf = true := by decide

theorem test_wf_refuses_overflow : (tiny 0xFFFF [0x60, 0x60] 1).wf = false := by decide

/-- Small session parameters: `SENTINEL` 0xFFF8 and the given play ceiling. -/
def params (playCeiling : Nat) : Params := ⟨0xFFF8, 20, playCeiling, 0x00, .hz50⟩

theorem test_wf_accepts_sentinel : (params 20).wf = true := by decide

theorem test_wf_refuses_zero_sentinel : ({ params 20 with sentinel := 0x0000 } : Params).wf = false := by decide

/-! ### Tracker, Loader, decimal alternatives -/

/-- 47_chip_tracker.md R262, its example. -/
theorem test_onWrite_example :
    (State.reset.onWrite 0xD401 0x10 0).pending = [⟨0, 0xD401, 0x10⟩] ∧
    (State.reset.onWrite 0xD401 0x10 0).tracker.voice1.freqHi = 0x10 ∧
    (State.reset.onWrite 0xD401 0x10 0).tracker.voice1.lastWrite = some 0 := by decide

/-- 47_chip_tracker.md R270: a pulse width of 0xF8 and 0x00 resolves to 0x800; a frequency of 0x10 and 0x00 to 0x1000. -/
theorem test_resolve_examples :
    (resolve { Voice.reset with pwHi := 0xF8 }).pulseWidth = 0x800 ∧
    (resolve { Voice.reset with freqHi := 0x10 }).frequency = 0x1000 := by decide

/-- 70_reset_and_hazards.md R342: the little-endian header and the defaults. -/
theorem test_load_header :
    (match load [0x00, 0x10, 0x60] ⟨none, none, some 0x1003⟩ 2 with
      | .ok l => some l
      | .error _ => none) = some ⟨0x1000, [0x60], 0x1000, 0x1003, 2⟩ := by decide

/-- 93_implementation_defined.md U3, its vectors: A, N, V, Z, C; the second has Z = 0 for the result 0x00, the last ADC an invalid digit. -/
theorem test_decimal_vectors :
    adcNmosBcd 0x09 0x01 false = ⟨0x10, false, false, false, false⟩ ∧
    adcNmosBcd 0x99 0x01 false = ⟨0x00, true, false, false, true⟩ ∧
    adcNmosBcd 0x50 0x50 false = ⟨0x00, true, true, false, true⟩ ∧
    adcNmosBcd 0x0F 0x01 false = ⟨0x16, false, false, false, false⟩ ∧
    sbcNmosBcd 0x00 0x01 true = ⟨0x99, true, false, false, false⟩ ∧
    sbcNmosBcd 0x32 0x02 false = ⟨0x29, false, false, false, true⟩ := by decide

/-! ### Witnesses: a state and operands that meet the hypotheses of each statement that has any, clause by clause -/

theorem test_witness_AdcAddsInBinaryOrFaultsInDecimalMode :
    (cpu 0x1000 [(0x1000, 0x69), (0x1001, 0x50)]).flags.d = false ∧
    ({ cpu 0x1000 [(0x1000, 0x69)] with flags := ⟨false, false, true, false, false, false⟩ } : State).flags.d = true := by decide

theorem test_witness_SbcSubtractsInBinaryOrFaultsInDecimalMode :
    (cpu 0x1000 [(0x1000, 0xE9), (0x1001, 0x50)]).flags.d = false ∧
    ({ cpu 0x1000 [(0x1000, 0xE9)] with flags := ⟨false, false, true, false, false, false⟩ } : State).flags.d = true := by decide

/-- A state with `D` = 1. -/
def decimalCpu (op : Byte) : State :=
  { cpu 0x1000 [(0x1000, op)] with flags := ⟨false, false, true, false, false, false⟩ }

theorem test_witness_DecimalModeStopsOnlyAdcAndSbc :
    (decimalCpu 0x69).flags.d = true ∧ (Instr.adcImm 0x01).mnemonic = .adc ∧
    ¬((Instr.cmpImm 0x01).mnemonic = .adc ∨ (Instr.cmpImm 0x01).mnemonic = .sbc) ∧
    look (fun t => t.pc) (exec (.cmpImm 0x01) (decimalCpu 0xC9)) = some 0x1002 := by decide

theorem test_witness_EncodeOfDecodeIsTheBytes : decode [0x8D, 0x00, 0xD4, 0x60] = .ok (.staAbs 0xD400) [0x60] := by decide

theorem test_witness_UndefinedOpcodesAreTheListed105 :
    (0x02 : Byte) ∈ undefinedOpcodes ∧ (0xFF : Byte) ∈ undefinedOpcodes ∧ (0x00 : Byte) ∉ undefinedOpcodes ∧
    (0xFE : Byte) ∉ undefinedOpcodes := by decide

/-- STA 0xD400 at the top of memory, its operand wrapping to 0x0000. -/
def wrapping : State := cpu 0xFFFE [(0xFFFE, 0x8D), (0xFFFF, 0x00), (0x0000, 0xD4)]

theorem test_witness_StepRunsTheDecodedInstruction :
    decode [wrapping.memRead wrapping.pc, wrapping.memRead (wrapping.pc + 1), wrapping.memRead (wrapping.pc + 2)] =
      .ok (.staAbs 0xD400) [] := by decide

theorem test_witness_StepFaultsExactlyWhereListed :
    (cpu 0x1000 [(0x1000, 0x02)]).memRead 0x1000 ∈ undefinedOpcodes ∧
    ((decimalCpu 0x71).memRead 0x1000 ∈ decimalOpcodes ∧ (decimalCpu 0x71).flags.d = true) ∧
    ¬((cpu 0x1000 [(0x1000, 0x71)]).memRead 0x1000 ∈ undefinedOpcodes ∨
      ((cpu 0x1000 [(0x1000, 0x71)]).memRead 0x1000 ∈ decimalOpcodes ∧
        (cpu 0x1000 [(0x1000, 0x71)]).flags.d = true)) := by decide

/-- The bounds of the window, of the voices and of the shared bytes: each address and its offset. -/
theorem test_witness_OnWriteUpdatesExactlyOneChipByte :
    ¬(0xD400 ≤ (0xD3FF : Addr).toNat ∧ (0xD3FF : Addr).toNat ≤ 0xD418) ∧
    ¬(0xD400 ≤ (0xD419 : Addr).toNat ∧ (0xD419 : Addr).toNat ≤ 0xD418) ∧
    ([0xD400, 0xD406, 0xD407, 0xD40D, 0xD40E, 0xD414, 0xD415, 0xD418] : List Addr).all
      (fun a => decide (0xD400 ≤ a.toNat ∧ a.toNat ≤ 0xD418)) = true ∧
    (State.reset.onWrite 0xD406 0x55 3).tracker.voice1.lastWrite = some 3 ∧
    (State.reset.onWrite 0xD407 0x55 3).tracker.voice2.lastWrite = some 3 ∧
    (State.reset.onWrite 0xD414 0x55 3).tracker.voice3.lastWrite = some 3 ∧
    (State.reset.onWrite 0xD415 0x55 3).tracker.filt0 = 0x55 := by decide

theorem test_witness_StepsOnlyAppendWindowEventsAndReplayThem :
    ∃ t, step wrapping = .next t ∧ t.pending = [⟨0, 0xD400, 0x00⟩] := ⟨_, rfl, by decide⟩

theorem test_witness_EveryStepKeepsTheInvariant : wrapping.Inv ∧ ∃ t, step wrapping = .next t :=
  ⟨⟨by decide, by decide, by intro k f h; simp [wrapping, cpu, State.reset, State.sessionReset, State.hostWrite, State.setMem] at h⟩,
    _, rfl⟩

/-- Another tracker, frame and Trace beside the same registers and memory. -/
def disguised (s : State) : State :=
  { s with tracker := { Tracker.reset with filt3 := 0x0F }, pending := [⟨4, 0xD418, 0x0F⟩], curFrame := 4 }

theorem test_witness_ProgramsCannotObserveTheTracker :
    SameForProgram wrapping (disguised wrapping) ∧ wrapping ≠ disguised wrapping ∧ (∃ t, step wrapping = .next t) ∧
    SameForProgram (decimalCpu 0x69) (disguised (decimalCpu 0x69)) ∧ (∃ f, step (decimalCpu 0x69) = .fault f) :=
  ⟨⟨rfl, rfl, rfl, rfl, rfl, rfl, rfl, rfl⟩, by decide, ⟨_, rfl⟩, ⟨rfl, rfl, rfl, rfl, rfl, rfl, rfl, rfl⟩, ⟨_, rfl⟩⟩

theorem test_witness_FlagsChangeOnlyWhereTheMatrixSays :
    (∃ t, exec .clc (decimalCpu 0x18) = .next t) ∧
    (flagsWritten Instr.clc.mnemonic).d = false ∧ (flagsWritten Instr.clc.mnemonic).n = false ∧
    (flagsWritten Instr.clc.mnemonic).v = false ∧ (flagsWritten Instr.clc.mnemonic).i = false ∧
    (flagsWritten Instr.clc.mnemonic).z = false ∧ (flagsWritten Instr.sed.mnemonic).c = false :=
  ⟨⟨_, rfl⟩, by decide⟩

theorem test_witness_OnlyTheListedInstructionsWriteEachRegister :
    look (fun t => t.a) (exec (.ldaImm 0x10) (cpu 0x1000 [])) = some 0x10 ∧ (cpu 0x1000 []).a = 0x00 ∧
    look (fun t => t.x) (exec .inx (cpu 0x1000 [])) = some 0x01 ∧ (cpu 0x1000 []).x = 0x00 ∧
    look (fun t => t.y) (exec .dey (cpu 0x1000 [])) = some 0xFF ∧ (cpu 0x1000 []).y = 0x00 ∧
    look (fun t => (t.sp, t.memRead 0x01FD)) (exec .php (cpu 0x1000 [])) = some (0xFC, 0x30) ∧
    ((cpu 0x1000 []).sp, (cpu 0x1000 []).memRead 0x01FD) = (0xFD, 0x00) := by decide

theorem test_witness_SequentialInstructionsMoveToTheNextAddress :
    look (fun t => t.pc) (exec (.staAbs 0x1234) (cpu 0xFFFE [])) = some 0x0001 ∧ Mnemonic.sta ∉ loadsPc ∧
    look (fun t => t.pc) (exec (.beq 0x10) (cpu 0x1000 [])) = some 0x1002 ∧ (Instr.beq 0x10).mode = .rel ∧
    branchTaken .beq (cpu 0x1000 []).flags = false := by decide

/-- The greatest cost, the least, a page cross and a taken branch to another page. -/
theorem test_witness_CyclesAreThoseOfTheCostTable :
    look (fun t => t.used) (exec .brk (cpu 0x1000 [])) = some 7 ∧
    look (fun t => t.used) (exec .nop (cpu 0x1000 [])) = some 2 ∧
    look (fun t => t.used) (exec (.ldaAbx 0x12FF) { cpu 0x1000 [] with x := 0x01 }) = some 5 ∧
    look (fun t => t.used) (exec (.bne 0x80) (cpu 0x1000 [])) = some 4 := by decide

theorem test_witness_PhpThenPlpRestoresTheFlags :
    ∃ t u, exec .php (decimalCpu 0x08) = .next t ∧ u = { t with pc := 0x2000 } ∧ u.sp = t.sp ∧
      u.memRead (stackAddr (decimalCpu 0x08).sp) = t.memRead (stackAddr (decimalCpu 0x08).sp) := ⟨_, _, rfl, rfl, rfl, rfl⟩

theorem test_witness_RtsReturnsBehindItsJsr :
    ∃ t u, exec (.jsr 0x2000) (cpu 0x1000 []) = .next t ∧ u = { t with pc := 0x2005, a := 0x01 } ∧ u.sp = t.sp ∧
      u.memRead 0x01FD = t.memRead 0x01FD ∧ u.memRead 0x01FC = t.memRead 0x01FC := ⟨_, _, rfl, rfl, rfl, rfl, rfl⟩

theorem test_witness_RtiResumesTwoBehindItsBrk :
    ∃ t u, exec .brk (decimalCpu 0x00) = .next t ∧ u = { t with pc := 0x3000, x := 0x01 } ∧ u.sp = t.sp ∧
      u.memRead 0x01FD = t.memRead 0x01FD ∧ u.memRead 0x01FC = t.memRead 0x01FC ∧ u.memRead 0x01FB = t.memRead 0x01FB :=
  ⟨_, _, rfl, rfl, rfl, rfl, rfl, rfl⟩

theorem test_witness_DecimalPolicyAlternativesWork :
    (decimalCpu 0x69).flags.d = true ∧ (cpu 0x1000 []).flags.d = false ∧ decimalDigits 0x00 ∧ decimalDigits 0x99 ∧ ¬decimalDigits 0x0A := by decide

/-- A file too short; one that overflows by a byte; one that ends at the top of memory; an override. -/
theorem test_witness_LoaderAcceptsExactlyWhatFits :
    ([0x00] : List Byte).length < 2 ∧
    (0xFFFF : Addr).toNat = (0xFF : Byte).toNat + 0x100 * (0xFF : Byte).toNat ∧
    0x10000 < (0xFFFF : Addr).toNat + ([0x60, 0x60] : List Byte).length ∧
    (0xFFFF : Addr).toNat + ([0x60] : List Byte).length ≤ 0x10000 ∧
    (⟨some 0xFFFF, none, none⟩ : Overrides).loadAddr = some 0xFFFF ∧
    (match load [0x00] ⟨none, none, none⟩ 1 with
      | .ok _ => none
      | .error e => some e) = some LoadError.formatError := by decide

theorem test_witness_PlacementPutsThePayloadAndNothingElse :
    (tiny 0xFFFE [0x60, 0x61] 1).wf = true ∧ (openSession (params 20) (tiny 0xFFFE [0x60, 0x61] 1)).memRead 0xFFFF = 0x61 ∧
    (tiny 0xD400 [] 1).wf = true := by decide

/-- Each outcome of `run_until`: done at once, done after a step, given up, stopped by an undefined opcode. -/
theorem test_witness_RunsStopWithinSevenCyclesOfTheCeiling :
    (∃ t, runUntil (fun _ => true) 0 (cpu 0x1000 []) = .done 0 t) ∧
    (∃ t, runUntil (fun s => s.pc == 0x1001) 10 (cpu 0x1000 [(0x1000, 0xEA)]) = .done 2 t) ∧
    (∃ t, runUntil (fun _ => false) 0 (cpu 0x1000 [(0x1000, 0xEA)]) = .fault (.infiniteLoopDetected 0x1001 0x00 2) t) ∧
    (∃ t, runUntil (fun _ => false) 0 (cpu 0x1000 [(0x1000, 0x02)]) = .fault (.unsupportedOpcode 0x1000 0x02) t) :=
  ⟨⟨_, rfl⟩, ⟨_, rfl⟩, ⟨_, rfl⟩, ⟨_, rfl⟩⟩

/-- Init RTS at 0x1000, play at 0x1001 the given byte, one frame. -/
def initThen (op : Byte) : Launch := ⟨0x1000, [0x60, op], 0x1000, 0x1001, 1⟩

/-- A capture that succeeds; init calls that meet an undefined opcode, that time out at a NOP under a ceiling of 0, and that return;
after a session of 0 frames, play calls that meet an undefined opcode, that time out, and that return. -/
theorem test_witness_CapturesDeliverExactlyTheirFrames :
    (captureLaunch (params 20) (tiny 0x1000 [0x60] 1)).error = none ∧
    (captureLaunch (params 20) (tiny 0x1000 [0x02] 1)).error = some ⟨.unsupportedOpcode, 0, 0x1000, 0x02⟩ ∧
    (captureLaunch (params 0) (initThen 0xEA)).error = some ⟨.frameTimeout 2, 0, 0x1002, 0x00⟩ ∧
    (∃ s, call (params 20) 0x1000 20 ((openSession (params 20) (tiny 0x1000 [0x02] 1)).setFrame 0) =
      .fault (.unsupportedOpcode 0x1000 0x02) s) ∧
    (∃ s, call { params 20 with initCeiling := 0 } 0x1000 0 ((openSession (params 20) (tiny 0x1000 [0xEA] 1)).setFrame 0) =
      .fault (.infiniteLoopDetected 0x1001 0x00 2) s) ∧
    (∃ s, call (params 20) 0x1000 20 ((openSession (params 20) (initThen 0x02)).setFrame 0) = .done 6 s) ∧
    (∃ s t, 0 < (initThen 0x02).frameCount ∧ runSession (params 20) { initThen 0x02 with frameCount := 0 } = (s, none) ∧
      call (params 20) 0x1001 20 (s.setFrame 0) = .fault (.unsupportedOpcode 0x1001 0x02) t) ∧
    (∃ s t, 0 < (initThen 0xEA).frameCount ∧ runSession (params 0) { initThen 0xEA with frameCount := 0 } = (s, none) ∧
      call (params 0) 0x1001 0 (s.setFrame 0) = .fault (.infiniteLoopDetected 0x1002 0x00 2) t) ∧
    (∃ s t, 0 < (initThen 0x60).frameCount ∧ runSession (params 20) { initThen 0x60 with frameCount := 0 } = (s, none) ∧
      call (params 20) 0x1001 20 (s.setFrame 0) = .done 6 t) :=
  ⟨by decide, by decide, by decide, ⟨_, rfl⟩, ⟨_, rfl⟩, ⟨_, rfl⟩, ⟨_, _, by decide, rfl, rfl⟩, ⟨_, _, by decide, rfl, rfl⟩,
    ⟨_, _, by decide, rfl, rfl⟩⟩

theorem test_witness_ReplayingEventsReconstructsEverySnapshot :
    ∃ f, (captureLaunch (params 20) (tiny 0x1000 [0x60] 1)).trace[0]? = some f := ⟨_, rfl⟩

theorem test_witness_ShorterCapturesArePrefixes :
    0 ≤ 1 ∧ (captureLaunch (params 20) { tiny 0x1000 [0x60] 0 with frameCount := 0 }).trace = [] ∧
    (captureLaunch (params 20) { tiny 0x1000 [0x60] 0 with frameCount := 1 }).trace.length = 1 := by decide

end Sys2Proof.Machine
end

section
/-! PROOF. Which steps fault (spec/60_exceptions.md R301): the decode table and its opcode bytes, what the fetch gives, which
instructions complete, and from these the obligation about `step`. -/

namespace Sys2Proof

/-- The instruction a format gives with operand bytes `b1` and `b2`, of which it uses as many as its length asks for
(30_encoding.md R101, R103). -/
def Form.instr (b1 b2 : Byte) : Form → Instr
  | .f1 i => i
  | .f2 mk => mk b1
  | .f3 mk => mk (word16 b2 b1)

/-- Each row of the decode table stands at the opcode byte of its instructions. -/
theorem opcodeOf_instr {op : Byte} {f : Form} (h : opcodeForm op = some f) (b1 b2 : Byte) :
    opcodeOf (f.instr b1 b2) = op := by
  unfold opcodeForm at h
  split at h
  all_goals cases h
  -- One case per row, with `hop : op.toNat = n` for the row's literal `n`.
  all_goals
    next hop => exact BitVec.eq_of_toNat_eq hop.symm

end Sys2Proof

namespace Sys2Proof.Machine

/-- The bytes that 30_encoding.md R108 lists are those the decode table leaves out, in ascending order. -/
theorem undefinedOpcodes_eq_filter :
    undefinedOpcodes = ((List.range 256).map (BitVec.ofNat 8)).filter fun op => (opcodeForm op).isNone := by
  decide

theorem opcodeForm_eq_none_iff (op : Byte) : opcodeForm op = none ↔ op ∈ undefinedOpcodes := by
  have hop : op ∈ (List.range 256).map (BitVec.ofNat 8) :=
    List.mem_map.mpr ⟨op.toNat, List.mem_range.mpr op.isLt, by simp⟩
  rw [undefinedOpcodes_eq_filter, List.mem_filter, Option.isNone_iff_eq_none, and_iff_right hop]

/-- The listed ADC and SBC opcodes are those of the instructions with these mnemonics. -/
theorem mem_decimalOpcodes_iff (i : Instr) :
    opcodeOf i ∈ decimalOpcodes ↔ i.mnemonic = .adc ∨ i.mnemonic = .sbc := by
  -- As an equation of `Bool`s each case evaluates, whatever the operand.
  apply decide_eq_decide.mp
  cases i <;> rfl

/-! ### Fetching: the decode table at the byte at `PC`, with the two bytes after it as operands -/

theorem fetch_eq (s : State) :
    fetch s = (opcodeForm (s.memRead s.pc)).map (Form.instr (s.memRead (s.pc + 1)) (s.memRead (s.pc + 2))) := by
  unfold fetch fetchBytes opcodeLength
  cases h : opcodeForm (s.memRead s.pc) with
  | none => simp [decode, h]
  | some f => cases f <;> simp [Form.length, Form.instr, decode, h]

theorem fetch_eq_none_iff (s : State) : fetch s = none ↔ s.memRead s.pc ∈ undefinedOpcodes := by
  rw [fetch_eq, Option.map_eq_none_iff, opcodeForm_eq_none_iff]

theorem opcodeOf_fetch {s : State} {i : Instr} (h : fetch s = some i) : opcodeOf i = s.memRead s.pc := by
  rw [fetch_eq, Option.map_eq_some_iff] at h
  obtain ⟨f, hf, rfl⟩ := h
  exact opcodeOf_instr hf _ _

/-- A step at an undefined opcode faults (60_exceptions.md R301). -/
theorem step_of_fetch_none {s : State} (h : fetch s = none) : step s = unsupported s := by
  simp only [step, h]

/-- A step at a defined opcode is the instruction's meaning (70_reset_and_hazards.md R345). -/
theorem step_of_fetch_some {s : State} {i : Instr} (h : fetch s = some i) : step s = exec i s := by
  simp only [step, h]

/-! ### Which instructions complete -/

theorem branch_completes (cond : Bool) (disp : Byte) (s : State) : ∃ t, branch cond disp s = .next t := by
  rw [branch_eq]
  cases cond
  · exact ⟨_, rfl⟩
  · exact ⟨_, rfl⟩

theorem adc_completes (length cycles : Nat) (m : Byte) {s : State} (hd : s.flags.d = false) :
    ∃ t, adc Config.decimalPolicy length cycles m s = .next t :=
  ⟨_, adc_binary_mode _ length cycles m s hd⟩

theorem sbc_completes (length cycles : Nat) (m : Byte) {s : State} (hd : s.flags.d = false) :
    ∃ t, sbc Config.decimalPolicy length cycles m s = .next t :=
  ⟨_, sbc_binary_mode _ length cycles m s hd⟩

/-- With `D = 1` every form of ADC and SBC faults (42_logic_arith.md R178). -/
theorem exec_decimal_faults {i : Instr} {s : State} (hi : i.mnemonic = .adc ∨ i.mnemonic = .sbc) (hd : s.flags.d = true) :
    exec i s = unsupported s := by
  cases i with
  | adcImm | adcZp | adcZpx | adcAbs | adcAbx | adcAby | adcIzx | adcIzy => exact adc_decimal_mode _ _ _ _ hd
  | sbcImm | sbcZp | sbcZpx | sbcAbs | sbcAbx | sbcAby | sbcIzx | sbcIzy => exact sbc_decimal_mode _ _ _ _ hd
  | _ => rcases hi with h | h <;> cases h

/-- Every instruction but an ADC or SBC with `D = 1` answers a next state: it ends in `finish`, in `jumped` or in a branch. -/
theorem exec_completes {i : Instr} {s : State} (h : (i.mnemonic = .adc ∨ i.mnemonic = .sbc) → s.flags.d = false) :
    ∃ t, exec i s = .next t := by
  cases i with
  | adcImm | adcZp | adcZpx | adcAbs | adcAbx | adcAby | adcIzx | adcIzy =>
    exact adc_completes _ _ _ (h (.inl rfl))
  | sbcImm | sbcZp | sbcZpx | sbcAbs | sbcAbx | sbcAby | sbcIzx | sbcIzy =>
    exact sbc_completes _ _ _ (h (.inr rfl))
  | bpl | bmi | bvc | bvs | bcc | bcs | bne | beq => exact branch_completes _ _ _
  | _ => exact ⟨_, rfl⟩

/-! ### The obligation -/

/-- A step faults at each listed opcode: nothing is fetched there, or what is fetched is an ADC or SBC with `D = 1`. -/
theorem step_faults_of_listed {s : State}
    (h : s.memRead s.pc ∈ undefinedOpcodes ∨ (s.memRead s.pc ∈ decimalOpcodes ∧ s.flags.d = true)) :
    step s = unsupported s := by
  cases hf : fetch s with
  | none => exact step_of_fetch_none hf
  | some i =>
    rw [step_of_fetch_some hf]
    obtain hu | ⟨hop, hd⟩ := h
    · simp [(fetch_eq_none_iff s).mpr hu] at hf
    · rw [← opcodeOf_fetch hf, mem_decimalOpcodes_iff] at hop
      exact exec_decimal_faults hop hd

/-- A step at any other opcode fetches an instruction, which completes. -/
theorem step_completes_of_not_listed {s : State} (hu : s.memRead s.pc ∉ undefinedOpcodes)
    (hd : s.memRead s.pc ∈ decimalOpcodes → s.flags.d = false) : ∃ t, step s = .next t := by
  cases hf : fetch s with
  | none => exact absurd ((fetch_eq_none_iff s).mp hf) hu
  | some i =>
    rw [step_of_fetch_some hf]
    refine exec_completes fun hi => hd ?_
    rwa [← opcodeOf_fetch hf, mem_decimalOpcodes_iff]

/-- Settles O29, by what is fetched at `PC`: nothing at an undefined opcode, else an instruction with that opcode byte. -/
theorem stepFaultsExactlyWhereListed : Obligations.StepFaultsExactlyWhereListed := by
  intro s
  refine ⟨fun h => (step_faults_of_listed h).trans (unsupported_eq s), fun h => ?_⟩
  obtain ⟨hu, hd⟩ := not_or.mp h
  exact step_completes_of_not_listed hu fun hop => Bool.eq_false_iff.mpr fun hd1 => hd ⟨hop, hd1⟩

end Sys2Proof.Machine
end

section
/-! PROOF. The state an effect (Sys2Proof/Safety.lean) leads to, as a function of the old state and the effect, and its fields. -/

namespace Sys2Proof.Machine

/-- `MemWrite`s one after another. -/
def State.writeAll (s : State) (writes : List (Addr × Byte)) : State := writes.foldl (fun u w => u.memWrite w.1 w.2) s

/-- The state after an effect: its writes, then its registers, `PC`, flags and cost. -/
def State.after (s : State) (e : Effect) : State :=
  { s.writeAll e.writes with
    a := e.a, x := e.x, y := e.y, sp := e.sp, pc := e.pc, flags := e.flags, used := s.used + e.cycles }

theorem writeAll_cons (s : State) (w : Addr × Byte) (ws : List (Addr × Byte)) :
    s.writeAll (w :: ws) = (s.memWrite w.1 w.2).writeAll ws := rfl

/-- What follows from `MemWrite` keeping a property follows for any number of them. -/
theorem writeAll_induction {P : State → Prop} (hP : ∀ (u : State) (a : Addr) (v : Byte), P u → P (u.memWrite a v))
    (s : State) (ws : List (Addr × Byte)) (h : P s) : P (s.writeAll ws) := by
  induction ws generalizing s with
  | nil => exact h
  | cons w ws ih => exact ih _ (hP s w.1 w.2 h)

@[simp] theorem writeAll_curFrame (s : State) (ws : List (Addr × Byte)) : (s.writeAll ws).curFrame = s.curFrame :=
  writeAll_induction (P := fun u => u.curFrame = s.curFrame) (fun u a v h => by simp [h]) s ws rfl

@[simp] theorem writeAll_trace (s : State) (ws : List (Addr × Byte)) : (s.writeAll ws).trace = s.trace :=
  writeAll_induction (P := fun u => u.trace = s.trace) (fun u a v h => by simp [h]) s ws rfl

theorem writeAll_mem (s : State) (ws : List (Addr × Byte)) :
    (s.writeAll ws).mem = ws.foldl (fun m w => m.write w.1.toNat w.2) s.mem := by
  induction ws generalizing s with
  | nil => rfl
  | cons w ws ih => rw [writeAll_cons, ih, memWrite_mem, List.foldl_cons]

theorem writeAll_wf (s : State) (ws : List (Addr × Byte)) (h : s.mem.wf = true) : (s.writeAll ws).mem.wf = true :=
  writeAll_induction (P := fun u => u.mem.wf = true) (fun u a v => memWrite_wf a v u) s ws h

@[simp] theorem writeAll_memRead (s : State) (ws : List (Addr × Byte)) (addr : Addr) :
    (s.writeAll ws).memRead addr = byteAfter s ws addr := by
  induction ws generalizing s with
  | nil => rfl
  | cons w ws ih =>
    rw [writeAll_cons, ih]
    simp only [byteAfter, memWrite_memRead, List.foldl_cons, eq_comm]

@[simp] theorem writeAll_pending (s : State) (ws : List (Addr × Byte)) :
    (s.writeAll ws).pending = s.pending ++ eventsOf s.curFrame ws := by
  induction ws generalizing s with
  | nil => exact (List.append_nil _).symm
  | cons w ws ih =>
    rw [writeAll_cons, ih, memWrite_pending, memWrite_curFrame, eventsOf_cons _ w ws, List.append_assoc]

@[simp] theorem writeAll_tracker (s : State) (ws : List (Addr × Byte)) :
    (s.writeAll ws).tracker = replay s.tracker (eventsOf s.curFrame ws) := by
  induction ws generalizing s with
  | nil => rfl
  | cons w ws ih =>
    rw [writeAll_cons, ih, memWrite_tracker, memWrite_curFrame, eventsOf_cons _ w ws, replay_append]

@[simp] theorem after_memRead (s : State) (e : Effect) (addr : Addr) : (s.after e).memRead addr = byteAfter s e.writes addr :=
  writeAll_memRead s e.writes addr

@[simp] theorem after_pending (s : State) (e : Effect) :
    (s.after e).pending = s.pending ++ eventsOf s.curFrame e.writes := writeAll_pending s e.writes

@[simp] theorem after_tracker (s : State) (e : Effect) :
    (s.after e).tracker = replay s.tracker (eventsOf s.curFrame e.writes) := writeAll_tracker s e.writes

@[simp] theorem after_curFrame (s : State) (e : Effect) : (s.after e).curFrame = s.curFrame := writeAll_curFrame s e.writes

@[simp] theorem after_trace (s : State) (e : Effect) : (s.after e).trace = s.trace := writeAll_trace s e.writes

@[simp] theorem after_mem (s : State) (e : Effect) :
    (s.after e).mem = e.writes.foldl (fun m w => m.write w.1.toNat w.2) s.mem := writeAll_mem s e.writes

/-- The state after an effect is the old one with this effect, in the sense of the claims. -/
theorem achieves_after (s : State) (e : Effect) : Achieves s (s.after e) e :=
  ⟨rfl, rfl, rfl, rfl, rfl, rfl, rfl, after_memRead s e, after_pending s e, after_tracker s e, after_curFrame s e,
    after_trace s e⟩

/-- `MemWrite` changes memory, pending events and the tracker only. -/
theorem memWrite_eq (a : Addr) (v : Byte) (s : State) :
    s.memWrite a v = { s with
      mem := s.mem.write a.toNat v
      pending := s.pending ++ eventsOf s.curFrame [(a, v)]
      tracker := replay s.tracker (eventsOf s.curFrame [(a, v)]) } := by
  rw [← memWrite_mem a v s, ← memWrite_pending a v s, ← memWrite_tracker a v s]
  unfold State.memWrite State.onWrite
  split
  · rfl
  · rfl

end Sys2Proof.Machine
end

section
/-! PROOF. Binary addition and subtraction (spec/42_logic_arith.md R175 to R177): the flags by unsigned value, subtraction as addition of
the complement, and from these the obligation about exactness and signed overflow. -/

namespace Sys2Proof.Machine

theorem negative_eq_msb (v : Byte) : negative v = v.msb := (BitVec.msb_eq_decide v).symm

/-- The signed value of a byte (10_state.md R32). -/
theorem toInt_eq_sub_negative (v : Byte) : v.toInt = v.toNat - 0x100 * ((negative v).toNat : Int) := by
  rw [negative_eq_msb, BitVec.toInt_eq_msb_cond]
  cases v.msb <;> simp

theorem and_0x80_ne_zero (v : Byte) : (v &&& 0x80 != 0) = negative v := by
  revert v; decide

theorem adcBinary_value_toNat (a m : Byte) (c : Bool) :
    (adcBinary a m c).value.toNat = (a.toNat + m.toNat + c.toNat) % 0x100 := BitVec.toNat_ofNat _ _

theorem adcBinary_c (a m : Byte) (c : Bool) : (adcBinary a m c).c = decide (0xFF < a.toNat + m.toNat + c.toNat) := rfl

/-- V of an addition: the operands agree in bit 7 and the result does not (42_logic_arith.md R175). -/
theorem adcBinary_v (a m : Byte) (c : Bool) :
    (adcBinary a m c).v = ((negative a == negative m) && (negative (adcBinary a m c).value != negative a)) := by
  simp only [adcBinary, and_0x80_ne_zero, negative_eq_msb, BitVec.msb_and, BitVec.msb_not, BitVec.msb_xor]
  cases a.msb <;> cases m.msb <;> simp

theorem complement_toNat (m : Byte) : (m ^^^ 0xFF).toNat = 0xFF - m.toNat := by
  revert m; decide

theorem complement_toInt (m : Byte) : (m ^^^ 0xFF).toInt = -m.toInt - 1 := by
  revert m; decide

theorem negative_complement (m : Byte) : negative (m ^^^ 0xFF) = !negative m := by
  revert m; decide

/-- The difference is the sum with the complement, less 0x100 (42_logic_arith.md R177). -/
theorem sub_eq_add_complement (a m : Byte) (c : Bool) :
    (a.toNat : Int) - m.toNat - (1 - (c.toNat : Int)) = (a.toNat + (m ^^^ 0xFF).toNat + c.toNat : Nat) - 0x100 := by
  have hm := m.isLt
  rw [complement_toNat]
  omega

/-- SBC is ADC of the complement, in the result and in every flag (42_logic_arith.md R177). -/
theorem sbcBinary_eq_adcBinary (a m : Byte) (c : Bool) : sbcBinary a m c = adcBinary a (m ^^^ 0xFF) c := by
  have hr : BitVec.ofInt 8 ((a.toNat : Int) - m.toNat - (1 - (c.toNat : Int))) =
      BitVec.ofNat 8 (a.toNat + (m ^^^ 0xFF).toNat + c.toNat) := by
    apply BitVec.eq_of_toNat_eq
    rw [sub_eq_add_complement, BitVec.toNat_ofInt, BitVec.toNat_ofNat]
    omega
  have hc : decide ((a.toNat : Int) - m.toNat - (1 - (c.toNat : Int)) ≥ 0) =
      decide (a.toNat + (m ^^^ 0xFF).toNat + c.toNat > 0xFF) := by
    rw [sub_eq_add_complement, decide_eq_decide]
    omega
  have hm : ~~~(a ^^^ (m ^^^ 0xFF)) = a ^^^ m := by
    rw [show (0xFF : Byte) = BitVec.allOnes 8 from rfl, BitVec.xor_allOnes, BitVec.not_xor_right, BitVec.not_not]
  simp only [sbcBinary, adcBinary, hr, hc, hm]

/-- ADC by unsigned value (42_logic_arith.md R176). -/
theorem adcBinary_eq (a m : Byte) (c : Bool) :
    adcBinary a m c =
      let t := a.toNat + m.toNat + c.toNat
      let r : Byte := BitVec.ofNat 8 (t % 0x100)
      ⟨r, negative r, (negative a == negative m) && (negative r != negative a), decide (r.toNat = 0), decide (0xFF < t)⟩ := by
  have hr : (adcBinary a m c).value = BitVec.ofNat 8 ((a.toNat + m.toNat + c.toNat) % 0x100) :=
    BitVec.eq_of_toNat_eq (by rw [adcBinary_value_toNat, BitVec.toNat_ofNat, Nat.mod_mod])
  have hn : (adcBinary a m c).n = negative (adcBinary a m c).value := bit7_eq_negative _
  have hz : (adcBinary a m c).z = decide ((adcBinary a m c).value.toNat = 0) := beq_zero_eq _
  have hv := adcBinary_v a m c
  rw [hr] at hn hz hv
  exact (Alu.mk.injEq ..).mpr ⟨hr, hn, hv, hz, adcBinary_c a m c⟩

/-- SBC by unsigned value (42_logic_arith.md R177). -/
theorem sbcBinary_eq (a m : Byte) (c : Bool) :
    sbcBinary a m c =
      let t := a.toNat + 0x100 - m.toNat - (1 - c.toNat)
      let r : Byte := BitVec.ofNat 8 (t % 0x100)
      ⟨r, negative r, (negative a != negative m) && (negative r != negative a), decide (r.toNat = 0), decide (0x100 ≤ t)⟩ := by
  have ht : a.toNat + (m ^^^ 0xFF).toNat + c.toNat = a.toNat + 0x100 - m.toNat - (1 - c.toNat) := by
    have hm := m.isLt
    have hc := c.toNat_lt
    rw [complement_toNat]
    omega
  have hv : (negative a == !negative m) = (negative a != negative m) := by
    cases negative a <;> cases negative m <;> rfl
  rw [sbcBinary_eq_adcBinary, adcBinary_eq, ht, negative_complement, hv]
  rfl

/-- Carry and result hold the exact sum (42_logic_arith.md R175). -/
theorem adcBinary_exact (a m : Byte) (c : Bool) :
    0x100 * (adcBinary a m c).c.toNat + (adcBinary a m c).value.toNat = a.toNat + m.toNat + c.toNat := by
  have ha := a.isLt
  have hm := m.isLt
  have hc := c.toNat_lt
  rw [adcBinary_value_toNat, adcBinary_c]
  by_cases h : 0xFF < a.toNat + m.toNat + c.toNat
  · simp only [h, decide_true, Bool.toNat_true]
    omega
  · simp only [h, decide_false, Bool.toNat_false]
    omega

/-- V of an addition is signed overflow (10_state.md R32). -/
theorem adcBinary_v_iff (a m : Byte) (c : Bool) :
    (adcBinary a m c).v = true ↔ (a.toInt + m.toInt + c.toNat < -128 ∨ 127 < a.toInt + m.toInt + c.toNat) := by
  have ha := a.isLt
  have hm := m.isLt
  have hc := c.toNat_lt
  have hr := adcBinary_value_toNat a m c
  rw [adcBinary_v, toInt_eq_sub_negative a, toInt_eq_sub_negative m]
  generalize (adcBinary a m c).value = r at hr
  have hna : negative a = decide (0x80 ≤ a.toNat) := rfl
  have hnm : negative m = decide (0x80 ≤ m.toNat) := rfl
  have hnr : negative r = decide (0x80 ≤ r.toNat) := rfl
  rw [hna, hnm, hnr]
  -- One case per pair of signs: operands of different signs never overflow.
  by_cases ha7 : 0x80 ≤ a.toNat <;> by_cases hm7 : 0x80 ≤ m.toNat <;> simp [ha7, hm7] <;> omega

/-- Settles O50: the sum is exact and overflows as said; the difference is the sum with the complement. -/
theorem arithmeticIsExactAndVIsSignedOverflow : Obligations.ArithmeticIsExactAndVIsSignedOverflow := by
  intro a m c
  refine ⟨adcBinary_exact a m c, adcBinary_v_iff a m c, ?_, ?_, sbcBinary_eq_adcBinary a m c⟩
  · have h := adcBinary_exact a (m ^^^ 0xFF) c
    rw [sbcBinary_eq_adcBinary, sub_eq_add_complement]
    omega
  · have h : a.toInt - m.toInt - (1 - (c.toNat : Int)) = a.toInt + (m ^^^ 0xFF).toInt + c.toNat := by
      rw [complement_toInt]
      omega
    rw [sbcBinary_eq_adcBinary, adcBinary_v_iff, h]

end Sys2Proof.Machine
end

section
/-! PROOF. The effect of every instruction: what its addressing mode gives it, the effect of its mnemonic on that, and `exec` as the state
after this effect. -/

namespace Sys2Proof.Machine

/-! ### What the addressing mode gives an instruction -/

/-- The address `b2, b1` of a 3-byte instruction (30_encoding.md R101). -/
def operandAddr : Instr → Addr
  | .ldaAbs w | .ldaAbx w | .ldaAby w | .ldxAbs w | .ldxAby w | .ldyAbs w | .ldyAbx w | .staAbs w | .staAbx w | .staAby w
  | .stxAbs w | .styAbs w | .andAbs w | .andAbx w | .andAby w | .oraAbs w | .oraAbx w | .oraAby w | .eorAbs w | .eorAbx w
  | .eorAby w | .bitAbs w | .adcAbs w | .adcAbx w | .adcAby w | .sbcAbs w | .sbcAbx w | .sbcAby w | .cmpAbs w | .cmpAbx w
  | .cmpAby w | .cpxAbs w | .cpyAbs w | .incAbs w | .incAbx w | .decAbs w | .decAbx w | .aslAbs w | .aslAbx w | .lsrAbs w
  | .lsrAbx w | .rolAbs w | .rolAbx w | .rorAbs w | .rorAbx w | .jmpAbs w | .jmpInd w | .jsr w => w
  | _ => 0

/-- The effective address of a mode (30_encoding.md R110 to R121); 0 for a mode that has none. -/
def effectiveAddr (i : Instr) (s : State) : Addr :=
  match i.mode with
  | .zp => eaZp (operand8 i)
  | .zpx => eaZpx (operand8 i) s
  | .zpy => eaZpy (operand8 i) s
  | .abs => operandAddr i
  | .abx => eaAbx (operandAddr i) s
  | .aby => eaAby (operandAddr i) s
  | .ind => eaInd (operandAddr i) s
  | .izx => eaIzx (operand8 i) s
  | .izy => eaIzy (operand8 i) s
  | .imp | .acc | .imm | .rel => 0

/-- The page-cross bit of an indexed mode (30_encoding.md R117, R118, R120). -/
def pageCrossed (i : Instr) (s : State) : Bool :=
  match i.mode with
  | .abx => pxAbx (operandAddr i) s
  | .aby => pxAby (operandAddr i) s
  | .izy => pxIzy (operand8 i) s
  | _ => false

/-- What an instruction's form gives its operation. -/
structure Access where
  mode : Mode
  length : Nat
  /-- the cost; of a branch, that of one not taken -/
  cycles : Nat
  ea : Addr
  /-- the immediate byte, the displacement of a branch, or the byte at the effective address -/
  m : Byte

/-- What the form of an instruction gives at a state (30_encoding.md R101, 70_reset_and_hazards.md R371). -/
def access (i : Instr) (s : State) : Access :=
  { mode := i.mode
    length := i.length
    cycles := (baseCycles i.mnemonic i.mode).getD 0 +
      (if i.mnemonic ∈ paysPageCross then (pageCrossed i s).toNat else 0)
    ea := effectiveAddr i s
    m := if i.mode = .imm ∨ i.mode = .rel then operand8 i else s.memRead (effectiveAddr i s) }

/-! ### The effect of a mnemonic -/

/-- The effect of a shift, on the accumulator or on memory (30_encoding.md R111, 43_inc_dec_shift.md R190). -/
def State.shiftsAt (s : State) (rule : ShiftRule) (o : Access) : Effect :=
  match o.mode with
  | .acc => s.shiftsA rule
  | _ => s.shifts rule o.ea o.length o.cycles

/-- The effect of a mnemonic with what its form gives it; of ADC and SBC, their effect with `D = 0`. -/
def effectOf (mn : Mnemonic) (o : Access) (s : State) : Effect :=
  match mn with
  | .lda => s.loadsA o.m o.length o.cycles
  | .ldx => s.loadsX o.m o.length o.cycles
  | .ldy => s.loadsY o.m o.length o.cycles
  | .sta => s.stores o.ea s.a o.length o.cycles
  | .stx => s.stores o.ea s.x o.length o.cycles
  | .sty => s.stores o.ea s.y o.length o.cycles
  | .tax => s.loadsX s.a o.length o.cycles
  | .tay => s.loadsY s.a o.length o.cycles
  | .txa => s.loadsA s.x o.length o.cycles
  | .tya => s.loadsA s.y o.length o.cycles
  | .tsx => s.loadsX s.sp o.length o.cycles
  | .txs => { s.seq o.length o.cycles with sp := s.x }
  | .pha => s.pushes s.a o.length o.cycles
  | .php => s.pushes (statusByte s.flags) o.length o.cycles
  | .pla => { s.loadsA (s.memRead (stackAddr (s.sp + 1))) o.length o.cycles with sp := s.sp + 1 }
  | .plp => { s.sets (flagsOfByte (s.memRead (stackAddr (s.sp + 1)))) o.length o.cycles with sp := s.sp + 1 }
  | .and => s.loadsA (s.a &&& o.m) o.length o.cycles
  | .ora => s.loadsA (s.a ||| o.m) o.length o.cycles
  | .eor => s.loadsA (s.a ^^^ o.m) o.length o.cycles
  | .bit => s.tests o.m o.length o.cycles
  | .adc => s.adds o.m o.length o.cycles
  | .sbc => s.subtracts o.m o.length o.cycles
  | .cmp => s.compares s.a o.m o.length o.cycles
  | .cpx => s.compares s.x o.m o.length o.cycles
  | .cpy => s.compares s.y o.m o.length o.cycles
  | .inc => s.modifies o.ea (s.memRead o.ea + 1) o.length o.cycles
  | .dec => s.modifies o.ea (s.memRead o.ea - 1) o.length o.cycles
  | .inx => s.loadsX (s.x + 1) o.length o.cycles
  | .iny => s.loadsY (s.y + 1) o.length o.cycles
  | .dex => s.loadsX (s.x - 1) o.length o.cycles
  | .dey => s.loadsY (s.y - 1) o.length o.cycles
  | .asl => s.shiftsAt aslRule o
  | .lsr => s.shiftsAt lsrRule o
  | .rol => s.shiftsAt rolRule o
  | .ror => s.shiftsAt rorRule o
  | .jmp => s.jumps o.ea o.cycles
  | .jsr =>
    { s.jumps o.ea o.cycles with
      sp := s.sp - 2
      writes := [(stackAddr s.sp, hi8 (s.pc + 2)), (stackAddr (s.sp - 1), lo8 (s.pc + 2))] }
  | .rts =>
    { s.jumps (word16 (s.memRead (stackAddr (s.sp + 2))) (s.memRead (stackAddr (s.sp + 1))) + 1) o.cycles with
      sp := s.sp + 2 }
  | .bpl | .bmi | .bvc | .bvs | .bcc | .bcs | .bne | .beq => s.branches (branchTaken mn s.flags) o.m
  | .clc => s.sets { s.flags with c := false } o.length o.cycles
  | .sec => s.sets { s.flags with c := true } o.length o.cycles
  | .cli => s.sets { s.flags with i := false } o.length o.cycles
  | .sei => s.sets { s.flags with i := true } o.length o.cycles
  | .clv => s.sets { s.flags with v := false } o.length o.cycles
  | .cld => s.sets { s.flags with d := false } o.length o.cycles
  | .sed => s.sets { s.flags with d := true } o.length o.cycles
  | .nop => s.seq o.length o.cycles
  | .brk =>
    { s.jumps (word16 (s.memRead 0xFFFF) (s.memRead 0xFFFE)) o.cycles with
      sp := s.sp - 3
      flags := { s.flags with i := true }
      writes := [(stackAddr s.sp, hi8 (s.pc + 2)), (stackAddr (s.sp - 1), lo8 (s.pc + 2)),
        (stackAddr (s.sp - 2), statusByte s.flags)] }
  | .rti =>
    { s.jumps (word16 (s.memRead (stackAddr (s.sp + 3))) (s.memRead (stackAddr (s.sp + 2)))) o.cycles with
      sp := s.sp + 3
      flags := flagsOfByte (s.memRead (stackAddr (s.sp + 1))) }

/-! ### The shared operations as effects -/

theorem writeAll_singleton (s : State) (addr : Addr) (v : Byte) : s.writeAll [(addr, v)] = s.memWrite addr v := rfl

theorem finish_loadA (m : Byte) (length cycles : Nat) (s : State) :
    finish length cycles (loadA m s) = .next (s.after (s.loadsA m length cycles)) := by
  rw [loadA_eq]; rfl

theorem finish_loadX (m : Byte) (length cycles : Nat) (s : State) :
    finish length cycles (loadX m s) = .next (s.after (s.loadsX m length cycles)) := by
  rw [loadX_eq]; rfl

theorem finish_loadY (m : Byte) (length cycles : Nat) (s : State) :
    finish length cycles (loadY m s) = .next (s.after (s.loadsY m length cycles)) := by
  rw [loadY_eq]; rfl

theorem finish_memWrite (addr : Addr) (v : Byte) (length cycles : Nat) (s : State) :
    finish length cycles (s.memWrite addr v) = .next (s.after (s.stores addr v length cycles)) := by
  rw [State.after, State.stores, writeAll_singleton, memWrite_eq]; rfl

theorem finish_push (v : Byte) (length cycles : Nat) (s : State) :
    finish length cycles (s.push v) = .next (s.after (s.pushes v length cycles)) := by
  rw [State.after, State.pushes, writeAll_singleton, State.push, memWrite_eq]; rfl

theorem finish_php (length cycles : Nat) (s : State) :
    finish length cycles (s.push (packP true s.flags)) = .next (s.after (s.pushes (statusByte s.flags) length cycles)) := by
  rw [packP_eq, finish_push]

theorem finish_pla (length cycles : Nat) (s : State) :
    finish length cycles (loadA s.pull.1 s.pull.2) = .next (s.after
      { s.loadsA (s.memRead (stackAddr (s.sp + 1))) length cycles with sp := s.sp + 1 }) := by
  rw [loadA_eq]; rfl

theorem finish_plp (length cycles : Nat) (s : State) :
    finish length cycles (s.pull.2.setFlags (unpackP s.pull.1)) = .next (s.after
      { s.sets (flagsOfByte (s.memRead (stackAddr (s.sp + 1)))) length cycles with sp := s.sp + 1 }) := by
  rw [unpackP_eq]; rfl

theorem finish_testBits (m : Byte) (length cycles : Nat) (s : State) :
    finish length cycles (testBits m s) = .next (s.after (s.tests m length cycles)) := by
  rw [testBits_eq]; rfl

theorem finish_compareReg (reg m : Byte) (length cycles : Nat) (s : State) :
    finish length cycles (compareReg reg m s) = .next (s.after (s.compares reg m length cycles)) := by
  rw [compareReg_eq]; rfl

theorem finish_rmw_incFn (ea : Addr) (length cycles : Nat) (s : State) :
    finish length cycles (rmw incFn ea s) = .next (s.after (s.modifies ea (s.memRead ea + 1) length cycles)) := by
  rw [State.after, State.modifies, writeAll_singleton, rmw_eq, incFn, setNZ_eq, memWrite_eq, memWrite_eq]; rfl

theorem finish_rmw_decFn (ea : Addr) (length cycles : Nat) (s : State) :
    finish length cycles (rmw decFn ea s) = .next (s.after (s.modifies ea (s.memRead ea - 1) length cycles)) := by
  rw [State.after, State.modifies, writeAll_singleton, rmw_eq, decFn, setNZ_eq, memWrite_eq, memWrite_eq]; rfl

/-- The function of a shift follows its rule by unsigned value. -/
def FollowsRule (f : Byte → Flags → Byte × Flags) (rule : ShiftRule) : Prop :=
  ∀ (v : Byte) (fl : Flags), f v fl = ((rule v fl.c).1, { flagsNZ (rule v fl.c).1 fl with c := (rule v fl.c).2 })

theorem finish_onA {f : Byte → Flags → Byte × Flags} {rule : ShiftRule} (h : FollowsRule f rule) (s : State) :
    finish 1 2 (onA f s) = .next (s.after (s.shiftsA rule)) := by
  rw [onA_eq, h]; rfl

theorem finish_rmw {f : Byte → Flags → Byte × Flags} {rule : ShiftRule} (h : FollowsRule f rule) (ea : Addr)
    (length cycles : Nat) (s : State) :
    finish length cycles (rmw f ea s) = .next (s.after (s.shifts rule ea length cycles)) := by
  rw [State.after, State.shifts, writeAll_singleton, rmw_eq, h, memWrite_eq, memWrite_eq]; rfl

theorem adc_eq_after (length cycles : Nat) (m : Byte) {s : State} (hd : s.flags.d = false) :
    adc Config.decimalPolicy length cycles m s = .next (s.after (s.adds m length cycles)) := by
  rw [adc_binary_mode _ _ _ _ _ hd, adcBinary_eq]; rfl

theorem sbc_eq_after (length cycles : Nat) (m : Byte) {s : State} (hd : s.flags.d = false) :
    sbc Config.decimalPolicy length cycles m s = .next (s.after (s.subtracts m length cycles)) := by
  rw [sbc_binary_mode _ _ _ _ _ hd, sbcBinary_eq]; rfl

theorem branch_eq_after (cond : Bool) (disp : Byte) (s : State) :
    branch cond disp s = .next (s.after (s.branches cond disp)) := by
  rw [branch_eq]
  cases cond
  · rfl
  · rfl

theorem sp_add_one_one (sp : Byte) : sp + 1 + 1 = sp + 2 := by rw [BitVec.add_assoc]; rfl

theorem sp_add_two_one (sp : Byte) : sp + 2 + 1 = sp + 3 := by rw [BitVec.add_assoc]; rfl

theorem sp_sub_one_one (sp : Byte) : sp - 1 - 1 = sp - 2 := by bv_omega

theorem sp_sub_two_one (sp : Byte) : sp - 2 - 1 = sp - 3 := by bv_omega

theorem jsr_eq_after (w : Addr) (cycles : Nat) (s : State) :
    jumped cycles ((s.pushWord (s.pc + 2)).setPc w) = .next (s.after
      { s.jumps w cycles with
        sp := s.sp - 2
        writes := [(stackAddr s.sp, hi8 (s.pc + 2)), (stackAddr (s.sp - 1), lo8 (s.pc + 2))] }) := by
  rw [State.after, State.writeAll, pushWord_eq, State.push, State.push, ← sp_sub_one_one]
  simp only [memWrite_eq, List.foldl]
  cases s
  rfl

theorem rts_eq_after (cycles : Nat) (s : State) :
    jumped cycles (s.pullWord.2.setPc (s.pullWord.1 + 1)) = .next (s.after
      { s.jumps (word16 (s.memRead (stackAddr (s.sp + 2))) (s.memRead (stackAddr (s.sp + 1))) + 1) cycles with
        sp := s.sp + 2 }) := by
  rw [pullWord_eq, sp_add_one_one]; rfl

/-- No stack address is an address of the BRK vector. -/
theorem stackAddr_ne (sp : Byte) {a : Addr} (h : 0x200 ≤ a.toNat) : a ≠ stackAddr sp := by
  rintro rfl
  have := sp.isLt
  rw [stackAddr_toNat] at h
  omega

theorem push_memRead_of_ne_stack (v : Byte) (s : State) {a : Addr} (h : 0x200 ≤ a.toNat) : (s.push v).memRead a = s.memRead a := by
  rw [push_memRead, if_neg (stackAddr_ne s.sp h)]

theorem brk_eq_after (cycles : Nat) (s : State) :
    jumped cycles s.takeBreak = .next (s.after
      { s.jumps (word16 (s.memRead 0xFFFF) (s.memRead 0xFFFE)) cycles with
        sp := s.sp - 3
        flags := { s.flags with i := true }
        writes := [(stackAddr s.sp, hi8 (s.pc + 2)), (stackAddr (s.sp - 1), lo8 (s.pc + 2)),
          (stackAddr (s.sp - 2), statusByte s.flags)] }) := by
  have hvec : ((s.pushWord (s.pc + 2)).push (packP true s.flags)).memRead16 Config.brkVector =
      word16 (s.memRead 0xFFFF) (s.memRead 0xFFFE) := by
    have h0 : 0x200 ≤ Config.brkVector.toNat := by decide
    have h1 : 0x200 ≤ (Config.brkVector + 1).toNat := by decide
    simp only [State.memRead16, pushWord_eq, push_memRead_of_ne_stack _ _ h0, push_memRead_of_ne_stack _ _ h1]
    rfl
  rw [takeBreak_eq, hvec, packP_eq, State.after, State.writeAll, pushWord_eq, State.push, State.push, State.push,
    ← sp_sub_two_one, ← sp_sub_one_one]
  simp only [memWrite_eq, List.foldl]
  cases s
  rfl

theorem rti_eq_after (cycles : Nat) (s : State) :
    jumped cycles s.returnFromBreak = .next (s.after
      { s.jumps (word16 (s.memRead (stackAddr (s.sp + 3))) (s.memRead (stackAddr (s.sp + 2)))) cycles with
        sp := s.sp + 3
        flags := flagsOfByte (s.memRead (stackAddr (s.sp + 1))) }) := by
  rw [returnFromBreak_eq, sp_add_one_one s.sp, sp_add_two_one, unpackP_eq]
  cases s
  rfl

/-! ### Every instruction -/

/-- Every instruction that completes leads to the state after the effect of its mnemonic on what its form gives it. -/
theorem exec_eq_after (i : Instr) {s : State} (h : (i.mnemonic = .adc ∨ i.mnemonic = .sbc) → s.flags.d = false) :
    exec i s = .next (s.after (effectOf i.mnemonic (access i s) s)) := by
  cases i with
  | ldaImm | ldaZp | ldaZpx | ldaAbs | ldaAbx | ldaAby | ldaIzx | ldaIzy
  | andImm | andZp | andZpx | andAbs | andAbx | andAby | andIzx | andIzy
  | oraImm | oraZp | oraZpx | oraAbs | oraAbx | oraAby | oraIzx | oraIzy
  | eorImm | eorZp | eorZpx | eorAbs | eorAbx | eorAby | eorIzx | eorIzy
  | txa | tya => exact finish_loadA _ _ _ _
  | ldxImm | ldxZp | ldxZpy | ldxAbs | ldxAby | tax | tsx | inx | dex => exact finish_loadX _ _ _ _
  | ldyImm | ldyZp | ldyZpx | ldyAbs | ldyAbx | tay | iny | dey => exact finish_loadY _ _ _ _
  | staZp | staZpx | staAbs | staAbx | staAby | staIzx | staIzy | stxZp | stxZpy | stxAbs | styZp | styZpx | styAbs =>
    exact finish_memWrite _ _ _ _ _
  | pha => exact finish_push _ _ _ _
  | php => exact finish_php _ _ _
  | pla => exact finish_pla _ _ _
  | plp => exact finish_plp _ _ _
  | bitZp | bitAbs => exact finish_testBits _ _ _ _
  | adcImm | adcZp | adcZpx | adcAbs | adcAbx | adcAby | adcIzx | adcIzy => exact adc_eq_after _ _ _ (h (.inl rfl))
  | sbcImm | sbcZp | sbcZpx | sbcAbs | sbcAbx | sbcAby | sbcIzx | sbcIzy => exact sbc_eq_after _ _ _ (h (.inr rfl))
  | cmpImm | cmpZp | cmpZpx | cmpAbs | cmpAbx | cmpAby | cmpIzx | cmpIzy | cpxImm | cpxZp | cpxAbs | cpyImm | cpyZp | cpyAbs =>
    exact finish_compareReg _ _ _ _ _
  | incZp | incZpx | incAbs | incAbx => exact finish_rmw_incFn _ _ _ _
  | decZp | decZpx | decAbs | decAbx => exact finish_rmw_decFn _ _ _ _
  | aslAcc => exact finish_onA aslFn_eq _
  | lsrAcc => exact finish_onA lsrFn_eq _
  | rolAcc => exact finish_onA rolFn_eq _
  | rorAcc => exact finish_onA rorFn_eq _
  | aslZp | aslZpx | aslAbs | aslAbx => exact finish_rmw aslFn_eq _ _ _ _
  | lsrZp | lsrZpx | lsrAbs | lsrAbx => exact finish_rmw lsrFn_eq _ _ _ _
  | rolZp | rolZpx | rolAbs | rolAbx => exact finish_rmw rolFn_eq _ _ _ _
  | rorZp | rorZpx | rorAbs | rorAbx => exact finish_rmw rorFn_eq _ _ _ _
  | jsr => exact jsr_eq_after _ _ _
  | rts => exact rts_eq_after _ _
  | bpl | bmi | bvc | bvs | bcc | bcs | bne | beq => exact branch_eq_after _ _ _
  | brk => exact brk_eq_after _ _
  | rti => exact rti_eq_after _ _
  | jmpAbs | jmpInd | txs | clc | sec | cli | sei | clv | cld | sed | nop => rfl

/-- The only state an instruction can lead to. -/
theorem eq_after_of_exec {i : Instr} {s t : State} (h : exec i s = .next t) :
    t = s.after (effectOf i.mnemonic (access i s) s) := by
  by_cases hd : (i.mnemonic = .adc ∨ i.mnemonic = .sbc) → s.flags.d = false
  · rw [exec_eq_after i hd] at h
    cases h
    rfl
  · obtain ⟨hi, hd⟩ := Classical.not_imp.mp hd
    rw [exec_decimal_faults hi (Bool.not_eq_false _ ▸ hd), unsupported_eq] at h
    cases h

end Sys2Proof.Machine
end

section
/-! PROOF. What every step keeps (spec/10_state.md, spec/20_memory.md R68): the obligations about the invariant of a safe run, about the
tracker being hidden from a program, and about what an instruction may change, each read off its effect. -/

namespace Sys2Proof.Machine

/-- A step that completes leads to the state after an effect. -/
theorem eq_after_of_step {s t : State} (h : step s = .next t) :
    ∃ i, fetch s = some i ∧ t = s.after (effectOf i.mnemonic (access i s) s) := by
  cases hf : fetch s with
  | none =>
    rw [step_of_fetch_none hf, unsupported_eq] at h
    cases h
  | some i =>
    rw [step_of_fetch_some hf] at h
    exact ⟨i, rfl, eq_after_of_exec h⟩

/-! ### The invariant of a safe run -/

/-- Any effect keeps the invariant: writes keep the canonical form, and their events lie in the window and carry the current frame. -/
theorem after_inv {s : State} (h : s.Inv) (e : Effect) : (s.after e).Inv := by
  obtain ⟨hmem, hpending, htrace⟩ := h
  refine ⟨writeAll_wf s e.writes hmem, fun ev hev => ?_, ?_⟩
  · rw [after_curFrame]
    rw [after_pending, List.mem_append] at hev
    cases hev with
    | inl hold => exact hpending ev hold
    | inr hnew => exact eventsOf_mem s.curFrame e.writes ev hnew
  · rw [after_trace]
    exact htrace

/-- Settles O40: a step leads to the state after an effect, and every effect keeps the invariant. -/
theorem everyStepKeepsTheInvariant : Obligations.EveryStepKeepsTheInvariant := by
  intro s t hinv hstep
  obtain ⟨i, -, rfl⟩ := eq_after_of_step hstep
  exact after_inv hinv _

theorem sessionReset_inv (initA : Byte) : (State.sessionReset initA).Inv :=
  ⟨reset_mem_wf, fun _ he => absurd he List.not_mem_nil, fun _ _ hf => absurd (List.mem_of_getElem? hf) List.not_mem_nil⟩

/-- Settles O39: the reset memory, pending list and Trace are empty. -/
theorem resetMeetsTheInvariant : Obligations.ResetMeetsTheInvariant :=
  ⟨sessionReset_inv _, rfl, rfl, fun initA => ⟨sessionReset_inv initA, rfl, rfl⟩⟩

/-! ### The tracker is hidden from a program -/

/-- Two states that a program cannot tell apart differ in the tracker, the pending events, the frame and the Trace at most. -/
theorem SameForProgram.eq_with {s s' : State} (h : SameForProgram s s') :
    s' = { s with tracker := s'.tracker, pending := s'.pending, curFrame := s'.curFrame, trace := s'.trace } := by
  obtain ⟨ha, hx, hy, hsp, hpc, hflags, hmem, hused⟩ := h
  rw [ha, hx, hy, hsp, hpc, hflags, hmem, hused]

/-- The effect of an instruction is the same at two states that a program cannot tell apart. -/
theorem SameForProgram.effectOf_eq {s s' : State} (h : SameForProgram s s') (i : Instr) :
    effectOf i.mnemonic (access i s') s' = effectOf i.mnemonic (access i s) s := by
  rw [h.eq_with]
  rfl

/-- The fetch is the same at two states that a program cannot tell apart. -/
theorem SameForProgram.fetch_eq {s s' : State} (h : SameForProgram s s') : fetch s' = fetch s := by
  rw [h.eq_with]
  rfl

/-- One effect leads from two such states to two such states. -/
theorem SameForProgram.after {s s' : State} (h : SameForProgram s s') (e : Effect) :
    SameForProgram (s.after e) (s'.after e) := by
  obtain ⟨-, -, -, -, -, -, hmem, hused⟩ := h
  refine ⟨rfl, rfl, rfl, rfl, rfl, rfl, ?_, ?_⟩
  · rw [after_mem, after_mem, hmem]
  · exact congrArg (· + e.cycles) hused

/-- Two such states that both complete a step have run the same instruction with the same effect. -/
theorem SameForProgram.of_step {s s' t t' : State} (h : SameForProgram s s') (ht : step s = .next t) (ht' : step s' = .next t') :
    SameForProgram t t' := by
  obtain ⟨i, hi, rfl⟩ := eq_after_of_step ht
  obtain ⟨i', hi', rfl⟩ := eq_after_of_step ht'
  rw [h.fetch_eq, hi] at hi'
  cases hi'
  rw [h.effectOf_eq]
  exact h.after _

/-- Settles O42: `PC`, the byte there and D say whether a step faults and how; where both states complete, `SameForProgram.of_step`. -/
theorem programsCannotObserveTheTracker : Obligations.ProgramsCannotObserveTheTracker := by
  intro s s' h
  have hpc : s'.pc = s.pc := by rw [h.eq_with]
  have hflags : s'.flags = s.flags := by rw [h.eq_with]
  have hbyte : s'.memRead s.pc = s.memRead s.pc := by rw [h.eq_with]; rfl
  obtain ⟨hfault, hnext⟩ := stepFaultsExactlyWhereListed s
  obtain ⟨hfault', hnext'⟩ := stepFaultsExactlyWhereListed s'
  rw [hpc, hbyte, hflags] at hfault' hnext'
  by_cases hl : s.memRead s.pc ∈ undefinedOpcodes ∨ (s.memRead s.pc ∈ decimalOpcodes ∧ s.flags.d = true)
  · rw [hfault hl, hfault' hl]
    exact ⟨fun _ ht => (nomatch ht), fun _ hf => hf⟩
  · obtain ⟨t, ht⟩ := hnext hl
    obtain ⟨t', ht'⟩ := hnext' hl
    rw [ht, ht']
    refine ⟨fun u hu => ⟨t', rfl, ?_⟩, fun _ hf => nomatch hf⟩
    cases hu
    exact h.of_step ht ht'

/-! ### The flags -/

/-- A flag that is not marked as written is unchanged. -/
def KeepsFlags (written f g : Flags) : Prop :=
  (written.n = false → g.n = f.n) ∧ (written.v = false → g.v = f.v) ∧ (written.d = false → g.d = f.d) ∧
  (written.i = false → g.i = f.i) ∧ (written.z = false → g.z = f.z) ∧ (written.c = false → g.c = f.c)

theorem keepsFlags_refl (written f : Flags) : KeepsFlags written f f :=
  ⟨fun _ => rfl, fun _ => rfl, fun _ => rfl, fun _ => rfl, fun _ => rfl, fun _ => rfl⟩

theorem keepsFlags_shiftsAt (s : State) (rule : ShiftRule) (o : Access) :
    KeepsFlags ⟨true, false, false, false, true, true⟩ s.flags (s.shiftsAt rule o).flags := by
  unfold State.shiftsAt
  split
  · exact ⟨nofun, fun _ => rfl, fun _ => rfl, fun _ => rfl, nofun, nofun⟩
  · exact ⟨nofun, fun _ => rfl, fun _ => rfl, fun _ => rfl, nofun, nofun⟩

@[simp] theorem branches_a (s : State) (taken : Bool) (disp : Byte) : (s.branches taken disp).a = s.a := by
  cases taken <;> rfl

@[simp] theorem branches_x (s : State) (taken : Bool) (disp : Byte) : (s.branches taken disp).x = s.x := by
  cases taken <;> rfl

@[simp] theorem branches_y (s : State) (taken : Bool) (disp : Byte) : (s.branches taken disp).y = s.y := by
  cases taken <;> rfl

@[simp] theorem branches_sp (s : State) (taken : Bool) (disp : Byte) : (s.branches taken disp).sp = s.sp := by
  cases taken <;> rfl

@[simp] theorem branches_flags (s : State) (taken : Bool) (disp : Byte) : (s.branches taken disp).flags = s.flags := by
  cases taken <;> rfl

@[simp] theorem branches_writes (s : State) (taken : Bool) (disp : Byte) : (s.branches taken disp).writes = [] := by
  cases taken <;> rfl

/-- One case per row of the flag matrix (10_state.md R37). -/
theorem effectOf_keepsFlags (mn : Mnemonic) (o : Access) (s : State) :
    KeepsFlags (flagsWritten mn) s.flags (effectOf mn o s).flags := by
  cases mn with
  | adc | sbc => exact ⟨nofun, nofun, fun _ => rfl, fun _ => rfl, nofun, nofun⟩
  | and | dec | dex | dey | eor | inc | inx | iny | lda | ldx | ldy | ora | pla | tax | tay | tsx | txa | tya =>
    exact ⟨nofun, fun _ => rfl, fun _ => rfl, fun _ => rfl, nofun, fun _ => rfl⟩
  | cmp | cpx | cpy => exact ⟨nofun, fun _ => rfl, fun _ => rfl, fun _ => rfl, nofun, nofun⟩
  | asl | lsr | rol | ror => exact keepsFlags_shiftsAt s _ o
  | bcc | bcs | beq | bmi | bne | bpl | bvc | bvs =>
    rw [effectOf, branches_flags]
    exact keepsFlags_refl _ _
  | jmp | jsr | nop | pha | php | rts | sta | stx | sty | txs => exact keepsFlags_refl _ _
  | bit => exact ⟨nofun, nofun, fun _ => rfl, fun _ => rfl, nofun, fun _ => rfl⟩
  | brk | cli | sei => exact ⟨fun _ => rfl, fun _ => rfl, fun _ => rfl, nofun, fun _ => rfl, fun _ => rfl⟩
  | clc | sec => exact ⟨fun _ => rfl, fun _ => rfl, fun _ => rfl, fun _ => rfl, fun _ => rfl, nofun⟩
  | cld | sed => exact ⟨fun _ => rfl, fun _ => rfl, nofun, fun _ => rfl, fun _ => rfl, fun _ => rfl⟩
  | clv => exact ⟨fun _ => rfl, nofun, fun _ => rfl, fun _ => rfl, fun _ => rfl, fun _ => rfl⟩
  | plp | rti => exact ⟨nofun, nofun, nofun, nofun, nofun, nofun⟩

/-- Settles O43, by the flags of the effect of each mnemonic. -/
theorem flagsChangeOnlyWhereTheMatrixSays : Obligations.FlagsChangeOnlyWhereTheMatrixSays := by
  intro i s t h
  rw [eq_after_of_exec h]
  exact effectOf_keepsFlags i.mnemonic (access i s) s

/-! ### The registers and memory -/

/-- Only a shift in the accumulator form writes `A`. -/
theorem shiftsAt_a (s : State) (rule : ShiftRule) (o : Access) : o.mode = .acc ∨ (s.shiftsAt rule o).a = s.a := by
  unfold State.shiftsAt
  split
  · next h => exact .inl h
  · exact .inr rfl

@[simp] theorem shiftsAt_x (s : State) (rule : ShiftRule) (o : Access) : (s.shiftsAt rule o).x = s.x := by
  unfold State.shiftsAt; split <;> rfl

@[simp] theorem shiftsAt_y (s : State) (rule : ShiftRule) (o : Access) : (s.shiftsAt rule o).y = s.y := by
  unfold State.shiftsAt; split <;> rfl

@[simp] theorem shiftsAt_sp (s : State) (rule : ShiftRule) (o : Access) : (s.shiftsAt rule o).sp = s.sp := by
  unfold State.shiftsAt; split <;> rfl

theorem effectOf_a (mn : Mnemonic) (o : Access) (s : State) :
    mn ∈ writesA ∨ o.mode = .acc ∨ (effectOf mn o s).a = s.a := by
  cases mn with
  | lda | pla | txa | tya | and | ora | eor | adc | sbc => exact .inl (by decide)
  | asl | lsr | rol | ror => exact .inr (shiftsAt_a s _ o)
  | bpl | bmi | bvc | bvs | bcc | bcs | bne | beq => exact .inr (.inr (branches_a s _ _))
  | _ => exact .inr (.inr rfl)

theorem effectOf_x (mn : Mnemonic) (o : Access) (s : State) : mn ∈ writesX ∨ (effectOf mn o s).x = s.x := by
  cases mn with
  | ldx | tax | tsx | inx | dex => exact .inl (by decide)
  | asl | lsr | rol | ror => exact .inr (shiftsAt_x s _ o)
  | bpl | bmi | bvc | bvs | bcc | bcs | bne | beq => exact .inr (branches_x s _ _)
  | _ => exact .inr rfl

theorem effectOf_y (mn : Mnemonic) (o : Access) (s : State) : mn ∈ writesY ∨ (effectOf mn o s).y = s.y := by
  cases mn with
  | ldy | tay | iny | dey => exact .inl (by decide)
  | asl | lsr | rol | ror => exact .inr (shiftsAt_y s _ o)
  | bpl | bmi | bvc | bvs | bcc | bcs | bne | beq => exact .inr (branches_y s _ _)
  | _ => exact .inr rfl

theorem effectOf_sp (mn : Mnemonic) (o : Access) (s : State) : mn ∈ writesSp ∨ (effectOf mn o s).sp = s.sp := by
  cases mn with
  | txs | pha | php | pla | plp | jsr | rts | brk | rti => exact .inl (by decide)
  | asl | lsr | rol | ror => exact .inr (shiftsAt_sp s _ o)
  | bpl | bmi | bvc | bvs | bcc | bcs | bne | beq => exact .inr (branches_sp s _ _)
  | _ => exact .inr rfl

theorem effectOf_writes (mn : Mnemonic) (o : Access) (s : State) : mn ∈ writesMemory ∨ (effectOf mn o s).writes = [] := by
  cases mn with
  | sta | stx | sty | inc | dec | asl | lsr | rol | ror | pha | php | jsr | brk => exact .inl (by decide)
  | bpl | bmi | bvc | bvs | bcc | bcs | bne | beq => exact .inr (branches_writes s _ _)
  | _ => exact .inr rfl

/-- An instruction in the accumulator form writes no memory. -/
theorem effectOf_writes_of_acc {i : Instr} (h : i.mode = .acc) (s : State) :
    (effectOf i.mnemonic (access i s) s).writes = [] := by
  cases i with
  | aslAcc | lsrAcc | rolAcc | rorAcc => rfl
  | _ => cases h

/-- Settles O44, by the registers and the writes of the effect of each mnemonic. -/
theorem onlyTheListedInstructionsWriteEachRegister : Obligations.OnlyTheListedInstructionsWriteEachRegister := by
  intro i s t h
  rw [eq_after_of_exec h]
  refine ⟨fun ha => ?_, (effectOf_x _ _ s).resolve_right, (effectOf_y _ _ s).resolve_right, (effectOf_sp _ _ s).resolve_right,
    fun addr hne => ?_⟩
  · exact (or_assoc.mpr (effectOf_a i.mnemonic (access i s) s)).resolve_right ha
  · have hw : (effectOf i.mnemonic (access i s) s).writes ≠ [] := by
      intro hnil
      rw [after_memRead, hnil] at hne
      exact hne rfl
    exact ⟨(effectOf_writes _ _ s).resolve_right hw, fun hacc => hw (effectOf_writes_of_acc hacc s)⟩

/-! ### The program counter -/

theorem encode_length (i : Instr) : (encode i).length = i.length := by
  cases i <;> rfl

theorem shiftsAt_pc {o : Access} (ho : o.length = o.mode.length) (s : State) (rule : ShiftRule) :
    (s.shiftsAt rule o).pc = s.pc + BitVec.ofNat 16 o.length := by
  unfold State.shiftsAt
  split
  · next h => rw [ho, h]; rfl
  · rfl

theorem effectOf_pc {mn : Mnemonic} (h : mn ∉ loadsPc) {o : Access} (ho : o.length = o.mode.length) (s : State) :
    (effectOf mn o s).pc = s.pc + BitVec.ofNat 16 o.length := by
  cases mn with
  | jmp | jsr | rts | rti | brk | bpl | bmi | bvc | bvs | bcc | bcs | bne | beq => exact absurd (by decide) h
  | asl | lsr | rol | ror => exact shiftsAt_pc ho s _
  | _ => rfl

/-- The relative mode is that of the branches. -/
theorem effectOf_of_rel {i : Instr} (h : i.mode = .rel) (s : State) :
    effectOf i.mnemonic (access i s) s = s.branches (branchTaken i.mnemonic s.flags) (operand8 i) := by
  cases i with
  | bpl | bmi | bvc | bvs | bcc | bcs | bne | beq => rfl
  | _ => cases h

/-- Settles O45, by `PC` in the effect of each mnemonic. -/
theorem sequentialInstructionsMoveToTheNextAddress : Obligations.SequentialInstructionsMoveToTheNextAddress := by
  intro i s t h
  rw [eq_after_of_exec h, encode_length]
  refine ⟨fun hi => effectOf_pc hi rfl s, fun hrel hnot => ?_, rfl⟩
  rw [effectOf_of_rel hrel, hnot, Instr.length, hrel]
  rfl

/-! ### The pushed flags -/

theorem flagsOfByte_statusByte (f : Flags) : flagsOfByte (statusByte f) = f := by
  rw [← unpackP_eq, ← packP_eq, unpackP_packP]

/-- Settles O47: PLP reads the slot that PHP wrote, and unpacks what PHP packed. -/
theorem phpThenPlpRestoresTheFlags : Obligations.PhpThenPlpRestoresTheFlags := by
  intro s
  refine ⟨_, finish_php 1 3 s, fun u hsp hslot => ⟨_, finish_plp 1 4 u, ?_, ?_⟩⟩
  all_goals
    have hsp1 : u.sp + 1 = s.sp := by
      rw [hsp]
      exact BitVec.sub_add_cancel s.sp 1
  · have hbyte : u.memRead (stackAddr s.sp) = statusByte s.flags := by
      rw [hslot, after_memRead]
      exact if_pos rfl
    change flagsOfByte (u.memRead (stackAddr (u.sp + 1))) = s.flags
    rw [hsp1, hbyte, flagsOfByte_statusByte]
  · exact hsp1

end Sys2Proof.Machine
end

section
/-! PROOF. What a write of the program and a write of the host do to the state (spec/20_memory.md R64, R65, R73). -/

namespace Sys2Proof.Machine

/-- The byte `MemWrite` stores first does not show in what the hook does to the tracker. -/
theorem memWrite_tracker_eq_onWrite (a : Addr) (v : Byte) (s : State) :
    (s.memWrite a v).tracker = (s.onWrite a v s.curFrame).tracker := by
  rw [State.memWrite, onWrite_tracker, onWrite_tracker, hostWrite_tracker]

/-- The byte `MemWrite` stores first does not show in what the hook appends to the pending events. -/
theorem memWrite_pending_eq_onWrite (a : Addr) (v : Byte) (s : State) :
    (s.memWrite a v).pending = (s.onWrite a v s.curFrame).pending := by
  rw [State.memWrite, onWrite_pending, onWrite_pending, hostWrite_pending]

/-- Outside memory, tracker and pending events a `MemWrite` changes nothing. -/
theorem memWrite_frame (a : Addr) (v : Byte) (s : State) :
    s.memWrite a v =
      { s with
        mem := (s.memWrite a v).mem
        tracker := (s.memWrite a v).tracker
        pending := (s.memWrite a v).pending } := by
  rw [memWrite_eq]

/-- Outside memory a host write changes nothing; in particular it does not call the hook. -/
theorem hostWrite_frame (a : Addr) (v : Byte) (s : State) :
    s.hostWrite a v = { s with mem := (s.hostWrite a v).mem } := rfl

/-- Settles O33: a read after either write, the hook's part of `MemWrite`, and the two frames. -/
theorem memWriteStoresThenTellsTheTracker : Obligations.MemWriteStoresThenTellsTheTracker := by
  intro s a v
  exact ⟨memWrite_memRead a v s, memWrite_tracker_eq_onWrite a v s, memWrite_pending_eq_onWrite a v s,
    memWrite_frame a v s, hostWrite_memRead a v s, hostWrite_frame a v s⟩

end Sys2Proof.Machine
end

section
/-! PROOF. Decoding and encoding (spec/30_encoding.md R100 to R109): every row of the decode table and every instruction are tied to the
same bytes, from which follow the two directions of the round trip, the undefined opcodes and the step at a decoded instruction. -/

namespace Sys2Proof

/-- The bytes of an instruction of each format, of three bytes as many as its length asks for (30_encoding.md R101). -/
def Form.bytes (op b1 b2 : Byte) (f : Form) : List Byte := [op, b1, b2].take f.length

@[simp] theorem Form.bytes_f1 (op b1 b2 : Byte) (i : Instr) : (Form.f1 i).bytes op b1 b2 = [op] := rfl
@[simp] theorem Form.bytes_f2 (op b1 b2 : Byte) (mk : Byte → Instr) : (Form.f2 mk).bytes op b1 b2 = [op, b1] := rfl
@[simp] theorem Form.bytes_f3 (op b1 b2 : Byte) (mk : Addr → Instr) : (Form.f3 mk).bytes op b1 b2 = [op, b1, b2] := rfl

/-! ### Encoding: the table has a row for every instruction, and the bytes of every row are those of its instructions -/

theorem encodeF3_word16 (op hi lo : Byte) : encodeF3 op (word16 hi lo) = [op, lo, hi] := by
  rw [encodeF3, lo8_word16, hi8_word16]

/-- No row of the decode table stands at another opcode byte, or orders its operand bytes otherwise, than `encode` does. -/
theorem encode_instr {op : Byte} {f : Form} (h : opcodeForm op = some f) (b1 b2 : Byte) :
    encode (f.instr b1 b2) = f.bytes op b1 b2 := by
  rw [← opcodeOf_instr h b1 b2]
  unfold opcodeForm at h
  split at h
  all_goals cases h
  -- One case per row: with the row's own opcode byte on both sides, what is left to compare is the operand bytes.
  all_goals simp [Form.instr, opcodeOf, encode, encodeF3_word16]

/-- Every instruction is that of the row at its opcode byte, with its own operand bytes. -/
theorem opcodeForm_opcodeOf (i : Instr) :
    (opcodeForm (opcodeOf i)).map (Form.instr ((encode i).getD 1 0) ((encode i).getD 2 0)) = some i := by
  cases i with
  | ldaAbs w | ldaAbx w | ldaAby w | ldxAbs w | ldxAby w | ldyAbs w | ldyAbx w | staAbs w | staAbx w | staAby w
  | stxAbs w | styAbs w | andAbs w | andAbx w | andAby w | oraAbs w | oraAbx w | oraAby w | eorAbs w | eorAbx w
  | eorAby w | bitAbs w | adcAbs w | adcAbx w | adcAby w | sbcAbs w | sbcAbx w | sbcAby w | cmpAbs w | cmpAbx w
  | cmpAby w | cpxAbs w | cpyAbs w | incAbs w | incAbx w | decAbs w | decAbx w | aslAbs w | aslAbx w | lsrAbs w
  | lsrAbx w | rolAbs w | rolAbx w | rorAbs w | rorAbx w | jmpAbs w | jmpInd w | jsr w =>
    conv_rhs => rw [← word16_hi8_lo8 w]
    rfl
  | _ => rfl

theorem exists_form (i : Instr) : ∃ op f b1 b2, opcodeForm op = some f ∧ f.instr b1 b2 = i := by
  obtain ⟨f, hf, hi⟩ := Option.map_eq_some_iff.mp (opcodeForm_opcodeOf i)
  exact ⟨_, f, _, _, hf, hi⟩

/-! ### Decoding: what the row at the opcode byte gives, and nothing else -/

theorem decode_of_opcodeForm_none {op : Byte} (h : opcodeForm op = none) (operands : List Byte) :
    decode (op :: operands) = .rejected (.undefinedOpcode op) := by
  simp only [decode, h]

theorem decode_form_bytes {op : Byte} {f : Form} (h : opcodeForm op = some f) (b1 b2 : Byte) (rest : List Byte) :
    decode (f.bytes op b1 b2 ++ rest) = .ok (f.instr b1 b2) rest := by
  cases f with
  | f1 | f2 | f3 => simp [decode, h, Form.instr]

/-- Three bytes are enough for every defined opcode. -/
theorem decode_three {op : Byte} {f : Form} (h : opcodeForm op = some f) (b1 b2 : Byte) :
    decode [op, b1, b2] = .ok (f.instr b1 b2) ([op, b1, b2].drop f.length) := by
  rw [← decode_form_bytes h, Form.bytes, List.take_append_drop]

/-- The only byte lists that decode are the bytes of a row of the table and a rest; the other ways to reject are lists too short. -/
theorem eq_form_bytes_of_decode {bytes : List Byte} {i : Instr} {rest : List Byte} (h : decode bytes = .ok i rest) :
    ∃ op f b1 b2, opcodeForm op = some f ∧ f.instr b1 b2 = i ∧ bytes = f.bytes op b1 b2 ++ rest := by
  unfold decode at h
  split at h
  · cases h
  · next op operands =>
    split at h
    · cases h
    · next hf =>
      cases h
      exact ⟨op, _, 0, 0, hf, rfl, rfl⟩
    · next hf =>
      split at h
      · next b1 _ =>
        cases h
        exact ⟨op, _, b1, 0, hf, rfl, rfl⟩
      · cases h
    · next hf =>
      split at h
      · next b1 b2 _ =>
        cases h
        exact ⟨op, _, b1, b2, hf, rfl, rfl⟩
      · cases h

/-! ### The round trip -/

theorem decode_encode (i : Instr) (rest : List Byte) : decode (encode i ++ rest) = .ok i rest := by
  obtain ⟨op, f, b1, b2, hf, rfl⟩ := exists_form i
  rw [encode_instr hf, decode_form_bytes hf]

theorem eq_encode_of_decode {bytes : List Byte} {i : Instr} {rest : List Byte} (h : decode bytes = .ok i rest) :
    bytes = encode i ++ rest := by
  obtain ⟨op, f, b1, b2, hf, rfl, rfl⟩ := eq_form_bytes_of_decode h
  rw [encode_instr hf]

end Sys2Proof

namespace Sys2Proof.Machine

/-- Settles O24: the instruction is that of a row of the decode table, and both `encode` and `decode` follow that row. -/
theorem decodeOfEncodeIsTheInstruction : Obligations.DecodeOfEncodeIsTheInstruction := decode_encode

/-- Settles O25: a list that decodes begins with the bytes of a row, which are those of the row's instruction. -/
theorem encodeOfDecodeIsTheBytes : Obligations.EncodeOfDecodeIsTheBytes := fun _ _ _ => eq_encode_of_decode

/-- Settles O26: the listed bytes are those without a row (`opcodeForm_eq_none_iff`); a row decodes from any two operand bytes. -/
theorem undefinedOpcodesAreTheListed105 : Obligations.UndefinedOpcodesAreTheListed105 := by
  refine ⟨rfl, fun op b1 b2 => ?_⟩
  rw [← opcodeForm_eq_none_iff]
  refine ⟨fun h => decode_of_opcodeForm_none h _, fun h => ?_⟩
  obtain ⟨f, hf⟩ := Option.ne_none_iff_exists'.mp h
  exact ⟨_, _, decode_three hf b1 b2⟩

/-- Settles O27, by the round trip: the words written out are the bytes of these instructions. -/
theorem sampleWordsDecodeAsTheSpecSays : Obligations.SampleWordsDecodeAsTheSpecSays :=
  ⟨decode_encode .clc [], decode_encode .aslAcc [], decode_encode (.ldaImm 0x10) [], decode_encode (.ldaZp 0x10) [],
    decode_encode (.ldaZpx 0x10) [], decode_encode (.ldxZpy 0x10) [], decode_encode (.ldaAbs 0x1234) [],
    decode_encode (.ldaAbx 0x1234) [], decode_encode (.ldaAby 0x1234) [], decode_encode (.jmpInd 0x1234) [],
    decode_encode (.ldaIzx 0x10) [], decode_encode (.ldaIzy 0x10) [], decode_encode (.bne 0xF9) [], decode_encode .brk []⟩

/-- The fetch reads as many bytes as the opcode asks for; decoding three bytes gives the same instruction. -/
theorem fetch_of_decode {s : State} {i : Instr} {rest : List Byte}
    (h : decode [s.memRead s.pc, s.memRead (s.pc + 1), s.memRead (s.pc + 2)] = .ok i rest) : fetch s = some i := by
  rw [fetch_eq]
  cases hf : opcodeForm (s.memRead s.pc) with
  | none =>
    rw [decode_of_opcodeForm_none hf] at h
    cases h
  | some f =>
    rw [decode_three hf] at h
    cases h
    rfl

/-- Settles O28: the fetch gives the decoded instruction, and a step at it is its meaning. -/
theorem stepRunsTheDecodedInstruction : Obligations.StepRunsTheDecodedInstruction :=
  fun _ _ _ h => step_of_fetch_some (fetch_of_decode h)

end Sys2Proof.Machine
end

section
/-! PROOF. The addressing modes by unsigned value (spec/30_encoding.md R113 to R122): one lemma per address computation, and the
page-cross bits by page number. -/

namespace Sys2Proof.Machine

/-! ### Zero page and absolute -/

/-- An index added to a zero-page address wraps inside page 0 (30_encoding.md R114, R115, R119). -/
theorem zext16_add_toNat (b v : Byte) : (zext16 (b + v)).toNat = (b.toNat + v.toNat) % 0x100 := by
  rw [zext16_toNat, BitVec.toNat_add]

/-- An index added to a 16-bit address wraps at 65536 (30_encoding.md R117, R118, R120). -/
theorem add_zext16_toNat (w : Addr) (v : Byte) : (w + zext16 v).toNat = (w.toNat + v.toNat) % 0x10000 := by
  rw [BitVec.toNat_add, zext16_toNat]

/-- The page-cross bit, read from the effective address (30_encoding.md R117, R118, R120, R122). -/
theorem crossed_iff_page_ne (base ea : Addr) : crossed base ea = true ↔ ea.toNat / 0x100 ≠ base.toNat / 0x100 := by
  rw [crossed_iff, ne_comm]

/-- Settles O30, by the two wraps of an index and the page numbers that the page-cross bits compare. -/
theorem zeroPageAndIndexedAddressesWrap : Obligations.ZeroPageAndIndexedAddressesWrap := by
  intro s b w
  exact ⟨zext16_toNat b, zext16_add_toNat b s.x, zext16_add_toNat b s.y, add_zext16_toNat w s.x, add_zext16_toNat w s.y,
    crossed_iff_page_ne w (eaAbx w s), crossed_iff_page_ne w (eaAby w s)⟩

/-! ### Pointers -/

/-- The second byte of a zero-page pointer comes from page 0 too (30_encoding.md R119, R120). -/
theorem zpPointer_toNat (p : Byte) (s : State) :
    (zpPointer p s).toNat = (s.mem.read p.toNat).toNat + 0x100 * (s.mem.read ((p.toNat + 1) % 0x100)).toNat := by
  have hnext : (zext16 (p + 1)).toNat = (p.toNat + 1) % 0x100 := zext16_add_toNat p 1
  rw [zpPointer, word16_toNat, State.memRead, State.memRead, hnext, zext16_toNat, Nat.mul_comm, Nat.add_comm]

theorem eaIzy_toNat (b : Byte) (s : State) :
    (eaIzy b s).toNat =
      ((s.mem.read b.toNat).toNat + 0x100 * (s.mem.read ((b.toNat + 1) % 0x100)).toNat + s.y.toNat) % 0x10000 := by
  rw [eaIzy, add_zext16_toNat, zpPointer_toNat]

/-- The page of a zero-page pointer is the byte it takes from the second address. -/
theorem pxIzy_iff (b : Byte) (s : State) :
    pxIzy b s = true ↔ (eaIzy b s).toNat / 0x100 ≠ (s.mem.read ((b.toNat + 1) % 0x100)).toNat := by
  have hpage : (zpPointer b s).toNat / 0x100 = (s.mem.read ((b.toNat + 1) % 0x100)).toNat := by
    have hlo := (s.mem.read b.toNat).isLt
    rw [zpPointer_toNat]
    omega
  rw [pxIzy, crossed_iff_page_ne, hpage]

/-- The address after `w` inside the page of `w` (30_encoding.md R121). -/
theorem nextInPage_toNat (w : Addr) :
    (word16 (hi8 w) (lo8 w + 1)).toNat = w.toNat / 0x100 * 0x100 + (w.toNat + 1) % 0x100 := by
  have hlo : (lo8 w + 1).toNat = (w.toNat + 1) % 0x100 := by
    rw [BitVec.toNat_add, lo8_toNat]
    exact Nat.mod_add_mod _ _ _
  rw [word16_toNat, hi8_toNat, hlo]

theorem eaInd_toNat (w : Addr) (s : State) :
    (eaInd w s).toNat =
      (s.mem.read w.toNat).toNat + 0x100 * (s.mem.read (w.toNat / 0x100 * 0x100 + (w.toNat + 1) % 0x100)).toNat := by
  rw [eaInd, word16_toNat, State.memRead, State.memRead, nextInPage_toNat, Nat.mul_comm, Nat.add_comm]

/-- Settles O31: (zp,X) is the pointer at the wrapped index sum, (zp),Y an index added to a pointer, (ind) a pointer whose second byte
comes from the same page. -/
theorem pointerModesWrapInsideTheirPage : Obligations.PointerModesWrapInsideTheirPage := by
  intro s b w
  have hizx : (b + s.x).toNat = (b.toNat + s.x.toNat) % 0x100 := BitVec.toNat_add b s.x
  exact ⟨hizx ▸ zpPointer_toNat (b + s.x) s, eaIzy_toNat b s, pxIzy_iff b s, eaInd_toNat w s⟩

/-! ### Branches -/

/-- Adding a displacement is adding its signed value modulo 65536 (30_encoding.md R122). -/
theorem add_sext16_toNat (w : Addr) (b : Byte) : ((w + sext16 b).toNat : Int) = (w.toNat + b.toInt) % 0x10000 := by
  have hb : (sext16 b).toInt = b.toInt := sext16_toInt b
  rw [BitVec.toInt_eq_toNat_cond] at hb
  rw [BitVec.toNat_add]
  split at hb <;> omega

theorem toInt_byte (b : Byte) : b.toInt = if b.toNat < 0x80 then (b.toNat : Int) else (b.toNat : Int) - 0x100 := by
  rw [BitVec.toInt_eq_toNat_cond]
  split <;> split <;> omega

theorem branchNext_toNat (s : State) : (branchNext s).toNat = (s.pc.toNat + 2) % 0x10000 := BitVec.toNat_add s.pc 2

/-- Settles O32: the signed displacement added to the next instruction's address, and the pages of these two addresses compared. -/
theorem branchTargetIsRelativeToTheNextInstruction : Obligations.BranchTargetIsRelativeToTheNextInstruction := by
  intro s b
  refine ⟨?_, ?_⟩
  · rw [← toInt_byte, branchTarget, add_sext16_toNat, branchNext_toNat]
    push_cast
    exact Int.emod_add_emod _ _ _
  · rw [crossed_iff_page_ne, branchNext_toNat]

end Sys2Proof.Machine
end

section
/-! PROOF. The accumulator forms of the shifts (spec/43_inc_dec_shift.md R197 to R200). -/

namespace Sys2Proof.Machine

/-- An instruction completes with an effect when `exec` answers the state after it. -/
theorem completes_of_exec {i : Instr} {bytes : List Byte} {s : State} {e : Effect} (hbytes : encode i = bytes)
    (h : exec i s = .next (s.after e)) : Completes i bytes s e :=
  ⟨hbytes, s.after e, h, achieves_after s e⟩

/-- Settles O15: each function shifts by its rule, and its accumulator form answers the state after the rule's effect. -/
theorem shiftsOfTheAccumulator : Obligations.ShiftsOfTheAccumulator := by
  intro s
  exact ⟨completes_of_exec rfl (finish_onA aslFn_eq s), completes_of_exec rfl (finish_onA lsrFn_eq s),
    completes_of_exec rfl (finish_onA rolFn_eq s), completes_of_exec rfl (finish_onA rorFn_eq s)⟩

end Sys2Proof.Machine
end

section
/-! PROOF. Loads, stores and transfers (spec/40_load_store_transfer.md R141 to R152): each form ends in a shared operation, whose effect
is known, with its bytes read off `encode` and its cost as the rule says. -/

namespace Sys2Proof.Machine

/-- An instruction completes at the cost of a rule with a page-cross cycle when its meaning adds the page-cross bit to the base cost
(30_encoding.md R117, R118, R120). -/
theorem completes_of_exec_crossed {i : Instr} {bytes : List Byte} {s : State} {e : Nat → Effect} {cycles : Nat} {base ea : Addr}
    (hbytes : encode i = bytes) (h : exec i s = .next (s.after (e (cycles + (crossed base ea).toNat)))) :
    Completes i bytes s (e (cycles + pageCost base ea)) :=
  completes_of_exec hbytes (crossed_toNat base ea ▸ h)

/-- Settles O1: each form loads A with its operand; the three indexed by a 16-bit sum pay the page-cross bit. -/
theorem ldaLoadsItsOperandIntoA : Obligations.LdaLoadsItsOperandIntoA := by
  intro s b w
  refine ⟨?imm, ?zp, ?zpx, ?abs, ?abx, ?aby, ?izx, ?izy⟩
  case imm | zp | zpx | abs | izx => exact completes_of_exec rfl (finish_loadA _ _ _ s)
  case abx | aby | izy => exact completes_of_exec_crossed rfl (finish_loadA _ _ _ s)

/-- Settles O2: each form loads X or Y with its operand; those indexed by a 16-bit sum pay the page-cross bit. -/
theorem ldxAndLdyLoadTheirOperand : Obligations.LdxAndLdyLoadTheirOperand := by
  intro s b w
  refine ⟨?xImm, ?xZp, ?xZpy, ?xAbs, ?xAby, ?yImm, ?yZp, ?yZpx, ?yAbs, ?yAbx⟩
  case xImm | xZp | xZpy | xAbs => exact completes_of_exec rfl (finish_loadX _ _ _ s)
  case xAby => exact completes_of_exec_crossed rfl (finish_loadX _ _ _ s)
  case yImm | yZp | yZpx | yAbs => exact completes_of_exec rfl (finish_loadY _ _ _ s)
  case yAbx => exact completes_of_exec_crossed rfl (finish_loadY _ _ _ s)

/-- Settles O3: every form ends in one `MemWrite` of its register at its effective address, at a fixed cost. -/
theorem storesWriteOneByteAtTheirAddress : Obligations.StoresWriteOneByteAtTheirAddress := by
  intro s b w
  refine ⟨?aZp, ?aZpx, ?aAbs, ?aAbx, ?aAby, ?aIzx, ?aIzy, ?xZp, ?xZpy, ?xAbs, ?yZp, ?yZpx, ?yAbs⟩
  case aZp | aZpx | aAbs | aAbx | aAby | aIzx | aIzy => exact completes_of_exec rfl (finish_memWrite _ s.a _ _ s)
  case xZp | xZpy | xAbs => exact completes_of_exec rfl (finish_memWrite _ s.x _ _ s)
  case yZp | yZpx | yAbs => exact completes_of_exec rfl (finish_memWrite _ s.y _ _ s)

/-- Settles O4: five transfers are loads of a register with another one, flags included; TXS only replaces SP. -/
theorem transfersCopyARegister : Obligations.TransfersCopyARegister := by
  intro s
  refine ⟨?tax, ?tay, ?txa, ?tya, ?tsx, ?txs⟩
  case tax | tsx => exact completes_of_exec rfl (finish_loadX _ 1 2 s)
  case tay => exact completes_of_exec rfl (finish_loadY _ 1 2 s)
  case txa | tya => exact completes_of_exec rfl (finish_loadA _ 1 2 s)
  case txs => exact completes_of_exec rfl rfl

end Sys2Proof.Machine
end

section
/-! PROOF. Pushes and pulls (spec/41_stack.md R162 to R165): PHA and PHP end in `Push`, PLA and PLP in `Pull` and its use. -/

namespace Sys2Proof.Machine

/-- Settles O5: both push one byte, A itself or the packed flags, which are the status image. -/
theorem pushesStoreAtTheStackPointer : Obligations.PushesStoreAtTheStackPointer := by
  intro s
  refine ⟨?pha, ?php⟩
  case pha => exact completes_of_exec rfl (finish_push s.a 1 3 s)
  case php => exact completes_of_exec rfl (finish_php 1 3 s)

/-- Settles O6: the pulled byte, read one slot above SP, is loaded into A or unpacked into the six flags. -/
theorem pullsReadAboveTheStackPointer : Obligations.PullsReadAboveTheStackPointer := by
  intro s
  refine ⟨?pla, ?plp⟩
  case pla => exact completes_of_exec rfl (finish_pla 1 4 s)
  case plp => exact completes_of_exec rfl (finish_plp 1 4 s)

end Sys2Proof.Machine
end

section
/-! PROOF. AND, ORA, EOR and BIT (spec/42_logic_arith.md R171 to R174): a logic instruction is a load of A with the combination, BIT a
change of flags. -/

namespace Sys2Proof.Machine

/-- Settles O7: each form loads A with A combined with its operand; the three indexed by a 16-bit sum pay the page-cross bit. -/
theorem logicCombinesAWithTheOperand : Obligations.LogicCombinesAWithTheOperand := by
  intro s b w
  refine ⟨?andImm, ?andZp, ?andZpx, ?andAbs, ?andAbx, ?andAby, ?andIzx, ?andIzy,
    ?oraImm, ?oraZp, ?oraZpx, ?oraAbs, ?oraAbx, ?oraAby, ?oraIzx, ?oraIzy,
    ?eorImm, ?eorZp, ?eorZpx, ?eorAbs, ?eorAbx, ?eorAby, ?eorIzx, ?eorIzy⟩
  case andImm | andZp | andZpx | andAbs | andIzx | oraImm | oraZp | oraZpx | oraAbs | oraIzx
    | eorImm | eorZp | eorZpx | eorAbs | eorIzx => exact completes_of_exec rfl (finish_loadA _ _ _ s)
  case andAbx | andAby | andIzy | oraAbx | oraAby | oraIzy | eorAbx | eorAby | eorIzy =>
    exact completes_of_exec_crossed rfl (finish_loadA _ _ _ s)

/-- Settles O8: both forms end in the bit test of A against the byte they read. -/
theorem bitTestsMemoryAgainstA : Obligations.BitTestsMemoryAgainstA := by
  intro s b w
  refine ⟨?zp, ?abs⟩
  case zp | abs => exact completes_of_exec rfl (finish_testBits _ _ _ s)

end Sys2Proof.Machine
end

section
/-! PROOF. ADC and SBC under the decided policy (spec/42_logic_arith.md R176 to R178): with `D = 0` a form is the binary operation on its
operand, with `D = 1` every form faults (`exec_decimal_faults`). -/

namespace Sys2Proof.Machine

/-- The fault of an ADC or SBC with `D = 1`, with what it carries (42_logic_arith.md R178, 60_exceptions.md R301). -/
theorem exec_decimal_fault_eq {i : Instr} {s : State} (hd : s.flags.d = true) (hi : i.mnemonic = .adc ∨ i.mnemonic = .sbc) :
    exec i s = .fault (.unsupportedOpcode s.pc (s.memRead s.pc)) :=
  (exec_decimal_faults hi hd).trans (unsupported_eq s)

/-- Settles O9: with `D = 0` each form adds its operand, at its cost; with `D = 1` each is an ADC that faults. -/
theorem adcAddsInBinaryOrFaultsInDecimalMode : Obligations.AdcAddsInBinaryOrFaultsInDecimalMode := by
  refine fun s b w => ⟨fun hd => ?binary, fun hd => ?decimal⟩
  case binary =>
    refine ⟨?imm, ?zp, ?zpx, ?abs, ?abx, ?aby, ?izx, ?izy⟩
    case imm | zp | zpx | abs | izx => exact completes_of_exec rfl (adc_eq_after _ _ _ hd)
    case abx | aby | izy => exact completes_of_exec_crossed rfl (adc_eq_after _ _ _ hd)
  case decimal =>
    have hfault (i : Instr) (hi : i.mnemonic = .adc) := exec_decimal_fault_eq hd (.inl hi)
    exact ⟨hfault _ rfl, hfault _ rfl, hfault _ rfl, hfault _ rfl, hfault _ rfl, hfault _ rfl, hfault _ rfl, hfault _ rfl⟩

/-- Settles O10: with `D = 0` each form subtracts its operand, at its cost; with `D = 1` each is an SBC that faults. -/
theorem sbcSubtractsInBinaryOrFaultsInDecimalMode : Obligations.SbcSubtractsInBinaryOrFaultsInDecimalMode := by
  refine fun s b w => ⟨fun hd => ?binary, fun hd => ?decimal⟩
  case binary =>
    refine ⟨?imm, ?zp, ?zpx, ?abs, ?abx, ?aby, ?izx, ?izy⟩
    case imm | zp | zpx | abs | izx => exact completes_of_exec rfl (sbc_eq_after _ _ _ hd)
    case abx | aby | izy => exact completes_of_exec_crossed rfl (sbc_eq_after _ _ _ hd)
  case decimal =>
    have hfault (i : Instr) (hi : i.mnemonic = .sbc) := exec_decimal_fault_eq hd (.inr hi)
    exact ⟨hfault _ rfl, hfault _ rfl, hfault _ rfl, hfault _ rfl, hfault _ rfl, hfault _ rfl, hfault _ rfl, hfault _ rfl⟩

/-- Settles O11: an ADC or SBC faults when `D = 1`, and `D` stops no other instruction. -/
theorem decimalModeStopsOnlyAdcAndSbc : Obligations.DecimalModeStopsOnlyAdcAndSbc :=
  fun _ _ hd => ⟨exec_decimal_fault_eq hd, fun hi => exec_completes fun h => absurd h hi⟩

end Sys2Proof.Machine
end

section
/-! PROOF. CMP, CPX and CPY (spec/42_logic_arith.md R179 to R181): every form ends in the compare of its register with its operand. -/

namespace Sys2Proof.Machine

/-- Settles O12: each form compares its register with its operand, whatever `D` is; those of CMP indexed by a 16-bit sum pay the
page-cross bit. -/
theorem comparesSetOnlyNZC : Obligations.ComparesSetOnlyNZC := by
  intro s b w
  refine ⟨?aImm, ?aZp, ?aZpx, ?aAbs, ?aAbx, ?aAby, ?aIzx, ?aIzy, ?xImm, ?xZp, ?xAbs, ?yImm, ?yZp, ?yAbs⟩
  case aImm | aZp | aZpx | aAbs | aIzx => exact completes_of_exec rfl (finish_compareReg s.a _ _ _ s)
  case aAbx | aAby | aIzy => exact completes_of_exec_crossed rfl (finish_compareReg s.a _ _ _ s)
  case xImm | xZp | xAbs => exact completes_of_exec rfl (finish_compareReg s.x _ _ _ s)
  case yImm | yZp | yAbs => exact completes_of_exec rfl (finish_compareReg s.y _ _ _ s)

end Sys2Proof.Machine
end

section
/-! PROOF. The alternative decimal policies (spec/93_implementation_defined.md U3): what ADC and SBC answer under each, the decimal
operations on all bytes by their digit sum and digit difference, and what these are for bytes of decimal digits. -/

namespace Sys2Proof.Machine

/-! ### ADC and SBC under each policy -/

theorem finish_setResult (r : Alu) (length cycles : Nat) (s : State) :
    finish length cycles (setResult r s) = .next (s.after (s.takesAlu r length cycles)) := rfl

theorem adc_of_clear (policy : DecimalPolicy) (length cycles : Nat) (m : Byte) {s : State} (hd : s.flags.d = false) :
    adc policy length cycles m s = .next (s.after (s.takesAlu (adcBinary s.a m s.flags.c) length cycles)) := by
  rw [adc_binary_mode _ _ _ _ _ hd, finish_setResult]

theorem sbc_of_clear (policy : DecimalPolicy) (length cycles : Nat) (m : Byte) {s : State} (hd : s.flags.d = false) :
    sbc policy length cycles m s = .next (s.after (s.takesAlu (sbcBinary s.a m s.flags.c) length cycles)) := by
  rw [sbc_binary_mode _ _ _ _ _ hd, finish_setResult]

/-- The policy `binary` computes as with `D = 0`. -/
theorem adc_binary_policy (length cycles : Nat) (m : Byte) (s : State) :
    adc .binary length cycles m s = .next (s.after (s.takesAlu (adcBinary s.a m s.flags.c) length cycles)) :=
  ite_self _

theorem sbc_binary_policy (length cycles : Nat) (m : Byte) (s : State) :
    sbc .binary length cycles m s = .next (s.after (s.takesAlu (sbcBinary s.a m s.flags.c) length cycles)) :=
  ite_self _

theorem adc_nmosBcd_policy (length cycles : Nat) (m : Byte) {s : State} (hd : s.flags.d = true) :
    adc .nmosBcd length cycles m s = .next (s.after (s.takesAlu (adcNmosBcd s.a m s.flags.c) length cycles)) :=
  if_pos hd

theorem sbc_nmosBcd_policy (length cycles : Nat) (m : Byte) {s : State} (hd : s.flags.d = true) :
    sbc .nmosBcd length cycles m s = .next (s.after (s.takesAlu (sbcNmosBcd s.a m s.flags.c) length cycles)) :=
  if_pos hd

/-- Taking a result with `D = 1` is taking it with `D` cleared, and setting `D` again. -/
theorem after_takesAlu_of_decimal {s : State} (hd : s.flags.d = true) (r : Alu) (length cycles : Nat) :
    let u := (s.setFlags { s.flags with d := false }).after ((s.setFlags { s.flags with d := false }).takesAlu r length cycles)
    s.after (s.takesAlu r length cycles) = u.setFlags { u.flags with d := true } := by
  rw [← hd]; rfl

/-! ### The decimal operations on all bytes -/

/-- The digit sum as U3 writes it, its high digits as multiples of 0x10. -/
theorem bcdSum_eq (a m : Byte) (c : Bool) :
    let low := a.toNat % 0x10 + m.toNat % 0x10 + c.toNat
    a.toNat / 0x10 * 0x10 + m.toNat / 0x10 * 0x10 + (if low ≥ 0x0A then (low + 0x06) % 0x10 + 0x10 else low) =
      bcdSum a m c := by
  simp only [bcdSum]
  split <;> omega

/-- The decimal ADC by its digit sum (93_implementation_defined.md U3). -/
theorem adcNmosBcd_eq (a m : Byte) (c : Bool) :
    adcNmosBcd a m c =
      let t := bcdSum a m c
      let adjusted := if t ≥ 0xA0 then t + 0x60 else t
      ⟨BitVec.ofNat 8 adjusted, t.testBit 7, (~~~(a ^^^ m) &&& (a ^^^ BitVec.ofNat 8 t)).getLsbD 7,
        BitVec.ofNat 8 (a.toNat + m.toNat + c.toNat) == 0, decide (adjusted ≥ 0x100)⟩ := by
  rw [← bcdSum_eq]; rfl

theorem adcNmosBcd_n (a m : Byte) (c : Bool) : (adcNmosBcd a m c).n = decide (bcdSum a m c / 0x80 % 2 = 1) := by
  rw [adcNmosBcd_eq]
  exact Nat.testBit_eq_decide_div_mod_eq

/-- V of the decimal ADC: the operands agree in bit 7 and the digit sum does not. -/
theorem adcNmosBcd_v (a m : Byte) (c : Bool) :
    (adcNmosBcd a m c).v = ((negative a == negative m) && (decide (bcdSum a m c / 0x80 % 2 = 1) != negative a)) := by
  have ht : (BitVec.ofNat 8 (bcdSum a m c)).getLsbD 7 = decide (bcdSum a m c / 0x80 % 2 = 1) := by
    rw [BitVec.getLsbD_ofNat, Nat.testBit_eq_decide_div_mod_eq]
    rfl
  rw [adcNmosBcd_eq, ← bit7_eq_negative, ← bit7_eq_negative]
  simp only [BitVec.getLsbD_and, BitVec.getLsbD_not, BitVec.getLsbD_xor, ht]
  cases a.getLsbD 7 <;> cases m.getLsbD 7 <;> simp

theorem adcNmosBcd_z (a m : Byte) (c : Bool) :
    (adcNmosBcd a m c).z = decide ((a.toNat + m.toNat + c.toNat) % 0x100 = 0) := by
  rw [← adcBinary_value_toNat]
  exact beq_zero_eq _

/-- The correction of the high digit carries exactly from 0xA0 on. -/
theorem adcNmosBcd_c (a m : Byte) (c : Bool) : (adcNmosBcd a m c).c = decide (0xA0 ≤ bcdSum a m c) := by
  rw [adcNmosBcd_eq]
  simp only [decide_eq_decide]
  split <;> omega

theorem adcNmosBcd_value_toNat (a m : Byte) (c : Bool) :
    (adcNmosBcd a m c).value.toNat = (if 0xA0 ≤ bcdSum a m c then bcdSum a m c + 0x60 else bcdSum a m c) % 0x100 := by
  rw [adcNmosBcd_eq]
  exact BitVec.toNat_ofNat _ _

/-- The digit difference as U3 writes it, its high digits as multiples of 0x10. -/
theorem bcdDifference_eq (a m : Byte) (c : Bool) :
    let low : Int := ((a.toNat % 0x10 : Nat) : Int) - ((m.toNat % 0x10 : Nat) : Int) + (c.toNat : Int) - 1
    ((a.toNat / 0x10 * 0x10 : Nat) : Int) - ((m.toNat / 0x10 * 0x10 : Nat) : Int) +
      (if low < 0 then (low - 0x06) % 0x10 - 0x10 else low) = bcdDifference a m c := by
  simp only [bcdDifference]
  split <;> split <;> omega

theorem sbcNmosBcd_value_toNat (a m : Byte) (c : Bool) :
    ((sbcNmosBcd a m c).value.toNat : Int) =
      (if bcdDifference a m c < 0 then bcdDifference a m c - 0x60 else bcdDifference a m c) % 0x100 := by
  have hvalue (i : Int) : ((BitVec.ofInt 8 i).toNat : Int) = i % 0x100 := by
    rw [BitVec.toNat_ofInt]
    exact Int.toNat_of_nonneg (Int.emod_nonneg _ (by decide))
  rw [← bcdDifference_eq]
  exact hvalue _

/-! ### Bytes of decimal digits -/

/-- The byte whose digits are those of a number below 100. -/
theorem decimal_of_toNat_eq {v : Byte} {n : Nat} (hn : n < 100) (hv : v.toNat = 0x10 * (n / 10) + n % 10) :
    decimalDigits v ∧ decimalValue v = n := by
  unfold decimalDigits decimalValue
  omega

/-- Of decimal digits, the digit sum holds the tens and the units of the decimal sum. -/
theorem bcdSum_of_decimal {a m : Byte} (c : Bool) (ha : decimalDigits a) (hm : decimalDigits m) :
    bcdSum a m c = 0x10 * ((decimalValue a + decimalValue m + c.toNat) / 10) + (decimalValue a + decimalValue m + c.toNat) % 10 := by
  have hc := c.toNat_lt
  obtain ⟨haHi, haLo⟩ := ha
  obtain ⟨hmHi, hmLo⟩ := hm
  simp only [bcdSum, decimalValue]
  split <;> omega

/-- Of decimal digits, the digit difference holds the tens, which may be negative, and the units of the decimal difference. -/
theorem bcdDifference_of_decimal {a m : Byte} (c : Bool) (ha : decimalDigits a) (hm : decimalDigits m) :
    bcdDifference a m c =
      0x10 * (((decimalValue a : Int) - decimalValue m - (1 - (c.toNat : Int))) / 10) +
        ((decimalValue a : Int) - decimalValue m - (1 - (c.toNat : Int))) % 10 := by
  have hc := c.toNat_lt
  obtain ⟨haHi, haLo⟩ := ha
  obtain ⟨hmHi, hmLo⟩ := hm
  simp only [bcdDifference, decimalValue]
  split <;> omega

theorem decimalValue_lt {v : Byte} (h : decimalDigits v) : decimalValue v < 100 := by
  obtain ⟨hHi, hLo⟩ := h
  unfold decimalValue
  omega

/-- Bytes of decimal digits compare as the numbers they write. -/
theorem add_le_toNat_iff_of_decimal {a m : Byte} {k : Nat} (hk : k ≤ 1) (ha : decimalDigits a) (hm : decimalDigits m) :
    m.toNat + k ≤ a.toNat ↔ decimalValue m + k ≤ decimalValue a := by
  obtain ⟨haHi, haLo⟩ := ha
  obtain ⟨hmHi, hmLo⟩ := hm
  unfold decimalValue
  omega

/-- The correction of the high digit after an addition takes the tens modulo 10. -/
theorem corrected_sum {n : Nat} (hn : n < 200) :
    (if 0xA0 ≤ 0x10 * (n / 10) + n % 10 then 0x10 * (n / 10) + n % 10 + 0x60 else 0x10 * (n / 10) + n % 10) % 0x100 =
      0x10 * (n % 100 / 10) + n % 100 % 10 := by
  by_cases h : n < 100
  · rw [if_neg (by omega), Nat.mod_eq_of_lt h]
    omega
  · have hmod : n % 100 = n - 100 := by omega
    rw [if_pos (by omega), hmod]
    omega

/-- The correction of the high digit after a subtraction takes the tens modulo 10. -/
theorem corrected_difference {d : Int} (hlo : -100 ≤ d) (hhi : d < 100) :
    (if 0x10 * (d / 10) + d % 10 < 0 then 0x10 * (d / 10) + d % 10 - 0x60 else 0x10 * (d / 10) + d % 10) % 0x100 =
      0x10 * (d % 100 / 10) + d % 100 % 10 := by
  by_cases h : d < 0
  · have hmod : d % 100 = d + 100 := by omega
    rw [if_pos (by omega), hmod]
    omega
  · rw [if_neg (by omega), Int.emod_eq_of_lt (by omega) hhi]
    omega

/-- The decimal ADC adds modulo 100 (93_implementation_defined.md U3). -/
theorem adcNmosBcd_of_decimal {a m : Byte} (c : Bool) (ha : decimalDigits a) (hm : decimalDigits m) :
    decimalDigits (adcNmosBcd a m c).value ∧
    decimalValue (adcNmosBcd a m c).value = (decimalValue a + decimalValue m + c.toNat) % 100 := by
  have hc := c.toNat_lt
  have ha100 := decimalValue_lt ha
  have hm100 := decimalValue_lt hm
  refine decimal_of_toNat_eq (Nat.mod_lt _ (by decide)) ?_
  rw [adcNmosBcd_value_toNat, bcdSum_of_decimal c ha hm, corrected_sum (by omega)]

theorem adcNmosBcd_c_iff_of_decimal {a m : Byte} (c : Bool) (ha : decimalDigits a) (hm : decimalDigits m) :
    (adcNmosBcd a m c).c = true ↔ 100 ≤ decimalValue a + decimalValue m + c.toNat := by
  rw [adcNmosBcd_c, decide_eq_true_iff, bcdSum_of_decimal c ha hm]
  omega

/-- The decimal SBC subtracts modulo 100 (93_implementation_defined.md U3). -/
theorem sbcNmosBcd_of_decimal {a m : Byte} (c : Bool) (ha : decimalDigits a) (hm : decimalDigits m) :
    decimalDigits (sbcNmosBcd a m c).value ∧
    decimalValue (sbcNmosBcd a m c).value = (decimalValue a + 100 - decimalValue m - (1 - c.toNat)) % 100 := by
  have hc := c.toNat_lt
  have ha100 := decimalValue_lt ha
  have hm100 := decimalValue_lt hm
  have hv := sbcNmosBcd_value_toNat a m c
  rw [bcdDifference_of_decimal c ha hm, corrected_difference (by omega) (by omega)] at hv
  -- The claim adds 100 first, so as to subtract natural numbers.
  have hmod : ((decimalValue a : Int) - decimalValue m - (1 - (c.toNat : Int))) % 100 =
      ((decimalValue a + 100 - decimalValue m - (1 - c.toNat)) % 100 : Nat) := by omega
  rw [hmod] at hv
  exact decimal_of_toNat_eq (Nat.mod_lt _ (by decide)) (by exact_mod_cast hv)

theorem sbcNmosBcd_c_iff_of_decimal {a m : Byte} (c : Bool) (ha : decimalDigits a) (hm : decimalDigits m) :
    (sbcNmosBcd a m c).c = true ↔ decimalValue m + (1 - c.toNat) ≤ decimalValue a := by
  have hc : (sbcNmosBcd a m c).c = decide ((a.toNat : Int) - m.toNat - (1 - (c.toNat : Int)) ≥ 0) := rfl
  have hlt := c.toNat_lt
  rw [← add_le_toNat_iff_of_decimal (by omega) ha hm, hc, decide_eq_true_iff]
  omega

/-! ### The obligation -/

/-- Settles O51: the policies by what each answers, the decimal operations flag by flag, and both on bytes of decimal digits. -/
theorem decimalPolicyAlternativesWork : Obligations.DecimalPolicyAlternativesWork := by
  refine ⟨fun policy length cycles m s hd => ?clear, fun length cycles m s hd => ?set, fun a m c => ?allBytes,
    fun a m c ha hm => ?decimal⟩
  case clear =>
    exact ⟨by rw [adc_of_clear _ _ _ _ hd, adc_of_clear _ _ _ _ hd], by rw [sbc_of_clear _ _ _ _ hd, sbc_of_clear _ _ _ _ hd]⟩
  case set =>
    refine ⟨?adcBinary, ?sbcBinary, ?adcNmosBcd, ?sbcNmosBcd⟩
    case adcBinary =>
      exact ⟨_, _, adc_binary_policy length cycles m s, adc_of_clear _ _ _ _ rfl, after_takesAlu_of_decimal hd _ _ _⟩
    case sbcBinary =>
      exact ⟨_, _, sbc_binary_policy length cycles m s, sbc_of_clear _ _ _ _ rfl, after_takesAlu_of_decimal hd _ _ _⟩
    case adcNmosBcd => exact ⟨_, adc_nmosBcd_policy length cycles m hd, achieves_after _ _⟩
    case sbcNmosBcd => exact ⟨_, sbc_nmosBcd_policy length cycles m hd, achieves_after _ _⟩
  case allBytes =>
    exact ⟨adcNmosBcd_n a m c, adcNmosBcd_v a m c, adcNmosBcd_z a m c, adcNmosBcd_c a m c, adcNmosBcd_value_toNat a m c,
      rfl, rfl, rfl, rfl, sbcNmosBcd_value_toNat a m c⟩
  case decimal =>
    obtain ⟨hsumDigits, hsumValue⟩ := adcNmosBcd_of_decimal c ha hm
    obtain ⟨hdiffDigits, hdiffValue⟩ := sbcNmosBcd_of_decimal c ha hm
    exact ⟨hsumDigits, hsumValue, adcNmosBcd_c_iff_of_decimal c ha hm, hdiffDigits, hdiffValue,
      sbcNmosBcd_c_iff_of_decimal c ha hm⟩

end Sys2Proof.Machine
end

section
/-! PROOF. INC, DEC, the counting of X and Y, and the memory forms of the shifts (spec/43_inc_dec_shift.md R190 to R200): a memory form
is one read-modify-write at its effective address, at a fixed cost; an index count is a load of the register with its neighbour. -/

namespace Sys2Proof.Machine

/-- Settles O13: each form is the read-modify-write of its function at its effective address. -/
theorem incAndDecModifyMemoryOnce : Obligations.IncAndDecModifyMemoryOnce := by
  intro s b w
  refine ⟨?incZp, ?incZpx, ?incAbs, ?incAbx, ?decZp, ?decZpx, ?decAbs, ?decAbx⟩
  case incZp | incZpx | incAbs | incAbx => exact completes_of_exec rfl (finish_rmw_incFn _ _ _ s)
  case decZp | decZpx | decAbs | decAbx => exact completes_of_exec rfl (finish_rmw_decFn _ _ _ s)

/-- Settles O14: each loads its register with the counted value, flags included. -/
theorem indexCountingWrapsAndSetsNZ : Obligations.IndexCountingWrapsAndSetsNZ := by
  intro s
  refine ⟨?inx, ?iny, ?dex, ?dey⟩
  case inx | dex => exact completes_of_exec rfl (finish_loadX _ 1 2 s)
  case iny | dey => exact completes_of_exec rfl (finish_loadY _ 1 2 s)

/-- Settles O16: each function shifts by its rule, and its memory forms are its read-modify-write at their effective address. -/
theorem shiftsOfMemoryWriteOnce : Obligations.ShiftsOfMemoryWriteOnce := by
  intro s b w
  refine ⟨?aslZp, ?aslZpx, ?aslAbs, ?aslAbx, ?lsrZp, ?lsrZpx, ?lsrAbs, ?lsrAbx,
    ?rolZp, ?rolZpx, ?rolAbs, ?rolAbx, ?rorZp, ?rorZpx, ?rorAbs, ?rorAbx⟩
  case aslZp | aslZpx | aslAbs | aslAbx => exact completes_of_exec rfl (finish_rmw aslFn_eq _ _ _ s)
  case lsrZp | lsrZpx | lsrAbs | lsrAbx => exact completes_of_exec rfl (finish_rmw lsrFn_eq _ _ _ s)
  case rolZp | rolZpx | rolAbs | rolAbx => exact completes_of_exec rfl (finish_rmw rolFn_eq _ _ _ s)
  case rorZp | rorZpx | rorAbs | rorAbx => exact completes_of_exec rfl (finish_rmw rorFn_eq _ _ _ s)

end Sys2Proof.Machine
end

section
/-! PROOF. Jumps, the subroutine call and return, and the branches (spec/44_control_flow.md R211 to R222): each is an effect on `PC`, of
JSR and RTS on the stack too; RTS behind JSR comes from the two slots that JSR wrote. -/

namespace Sys2Proof.Machine

/-! ### Jumps -/

/-- The address after `w` inside the page of `w`, as a word (30_encoding.md R121). -/
theorem nextInPage_eq (w : Addr) :
    word16 (hi8 w) (lo8 w + 1) = BitVec.ofNat 16 (w.toNat / 0x100 * 0x100 + (w.toNat + 1) % 0x100) := by
  rw [← nextInPage_toNat, BitVec.ofNat_toNat, BitVec.setWidth_eq]

theorem jmpInd_eq_after (w : Addr) (cycles : Nat) (s : State) :
    jumped cycles (s.setPc (eaInd w s)) = .next (s.after (s.jumps
      (word16 (s.memRead (BitVec.ofNat 16 (w.toNat / 0x100 * 0x100 + (w.toNat + 1) % 0x100))) (s.memRead w)) cycles)) := by
  rw [eaInd, nextInPage_eq]; rfl

/-- Settles O17: JMP absolute only replaces PC; JMP (indirect) does so with the word at its pointer, read inside the pointer's page. -/
theorem jmpGoesToItsTarget : Obligations.JmpGoesToItsTarget := by
  intro s w
  refine ⟨?abs, ?ind⟩
  case abs => exact completes_of_exec rfl rfl
  case ind => exact completes_of_exec rfl (jmpInd_eq_after w 5 s)

/-! ### Subroutines -/

/-- Settles O18: a pushed word is two writes, and PC is replaced after them. -/
theorem jsrPushesTheAddressOfItsLastByte : Obligations.JsrPushesTheAddressOfItsLastByte :=
  fun s w => completes_of_exec rfl (jsr_eq_after w 6 s)

/-- Settles O19: PC is one more than the pulled word. -/
theorem rtsReturnsToThePulledAddressPlusOne : Obligations.RtsReturnsToThePulledAddressPlusOne :=
  fun s => completes_of_exec rfl (rts_eq_after 6 s)

/-- Different stack pointers have different slots. -/
@[simp] theorem stackAddr_inj {a b : Byte} : stackAddr a = stackAddr b ↔ a = b := by
  rw [← BitVec.toNat_inj, ← BitVec.toNat_inj, stackAddr_toNat, stackAddr_toNat, Nat.add_left_cancel_iff]

theorem stackAddr_sub_one_ne (sp : Byte) : stackAddr (sp - 1) ≠ stackAddr sp := by
  rw [ne_eq, stackAddr_inj]
  bv_omega

/-- RTS resumes at `v + 1` when the slots of `sp` and `sp - 1` hold `v` and SP is two below `sp`, where it leaves SP
(44_control_flow.md R213). -/
theorem rts_resumes {u : State} {sp : Byte} {v : Addr} (hsp : u.sp = sp - 2) (hhi : u.memRead (stackAddr sp) = hi8 v)
    (hlo : u.memRead (stackAddr (sp - 1)) = lo8 v) : ∃ r, exec .rts u = .next r ∧ r.pc = v + 1 ∧ r.sp = sp := by
  have hsp1 : u.sp + 1 = sp - 1 := by bv_omega
  have hsp2 : u.sp + 2 = sp := by bv_omega
  refine ⟨_, rts_eq_after 6 u, ?_, hsp2⟩
  change word16 (u.memRead (stackAddr (u.sp + 2))) (u.memRead (stackAddr (u.sp + 1))) + 1 = v + 1
  rw [hsp1, hsp2, hhi, hlo, word16_hi8_lo8]

/-- Settles O48: JSR leaves the two halves of `pc + 2` in two different slots, and RTS adds one to the word it finds there. -/
theorem rtsReturnsBehindItsJsr : Obligations.RtsReturnsBehindItsJsr := by
  intro s w
  refine ⟨_, jsr_eq_after w 6 s, rfl, fun u hsp hslotHi hslotLo => ?_⟩
  have hhi : u.memRead (stackAddr s.sp) = hi8 (s.pc + 2) := by
    rw [hslotHi, after_memRead]
    exact (if_neg (stackAddr_sub_one_ne s.sp)).trans (if_pos rfl)
  have hlo : u.memRead (stackAddr (s.sp - 1)) = lo8 (s.pc + 2) := by
    rw [hslotLo, after_memRead]
    exact if_pos rfl
  have hnext : s.pc + 3 = s.pc + 2 + 1 := (BitVec.add_assoc s.pc 2 1).symm
  rw [hnext]
  exact rts_resumes hsp hhi hlo

/-! ### Branches -/

/-- Settles O20: each branch is the common one on its flag, at its own opcode. -/
theorem branchesGoWhereTheirFlagSays : Obligations.BranchesGoWhereTheirFlagSays := by
  intro s b
  refine ⟨?bpl, ?bmi, ?bvc, ?bvs, ?bcc, ?bcs, ?bne, ?beq⟩
  case bpl | bmi | bvc | bvs | bcc | bcs | bne | beq => exact completes_of_exec rfl (branch_eq_after _ b s)

end Sys2Proof.Machine
end

section
/-! PROOF. The flag instructions and NOP (spec/45_flags_nop.md R230 to R237): a flag instruction replaces the flags and goes on to the
next instruction, NOP only goes on. -/

namespace Sys2Proof.Machine

/-- Going on to the next instruction is the effect that changes nothing but PC and the cycles. -/
theorem finish_eq_after (length cycles : Nat) (s : State) : finish length cycles s = .next (s.after (s.seq length cycles)) := rfl

theorem finish_setFlags (f : Flags) (length cycles : Nat) (s : State) :
    finish length cycles (s.setFlags f) = .next (s.after (s.sets f length cycles)) := rfl

/-- Settles O21: a flag instruction sets the flags with one of them replaced, so the other five stay; NOP leaves the state as it is. -/
theorem flagInstructionsWriteOneFlag : Obligations.FlagInstructionsWriteOneFlag := by
  intro s
  refine ⟨?clc, ?sec, ?cli, ?sei, ?clv, ?cld, ?sed, ?nop⟩
  case clc | sec | cli | sei | clv | cld | sed => exact completes_of_exec rfl (finish_setFlags _ 1 2 s)
  case nop => exact completes_of_exec rfl (finish_eq_after 1 2 s)

end Sys2Proof.Machine
end

section
/-! PROOF. BRK and RTI (spec/46_break_return.md R245, R246): the trap and its return complete with known effects, and a return that finds
the three pushed bytes undoes the trap but for its `PC`, which is `pc + 2`. -/

namespace Sys2Proof.Machine

/-- Settles O22: three pushes, and a vector that none of them reaches. -/
theorem brkTrapsThroughTheVector : Obligations.BrkTrapsThroughTheVector :=
  fun s => completes_of_exec rfl (brk_eq_after 7 s)

/-- Settles O23: the flags are unpacked from the first pulled byte, and PC is the word pulled after it. -/
theorem rtiRestoresFlagsAndProgramCounter : Obligations.RtiRestoresFlagsAndProgramCounter :=
  fun s => completes_of_exec rfl (rti_eq_after 6 s)

/-- Three pushed bytes lie in three different slots, so each is read back (41_stack.md R160). -/
theorem byteAfter_three_pushes (s : State) (sp v1 v2 v3 : Byte) :
    let writes := [(stackAddr sp, v1), (stackAddr (sp - 1), v2), (stackAddr (sp - 2), v3)]
    byteAfter s writes (stackAddr sp) = v1 ∧ byteAfter s writes (stackAddr (sp - 1)) = v2 ∧
      byteAfter s writes (stackAddr (sp - 2)) = v3 := by
  have h10 : stackAddr (sp - 1) ≠ stackAddr sp := stackAddr_sub_one_ne sp
  have h20 : stackAddr (sp - 2) ≠ stackAddr sp := by
    rw [ne_eq, stackAddr_inj]
    bv_omega
  have h21 : stackAddr (sp - 2) ≠ stackAddr (sp - 1) := sp_sub_one_one sp ▸ stackAddr_sub_one_ne (sp - 1)
  exact ⟨(if_neg h20).trans ((if_neg h10).trans (if_pos rfl)), (if_neg h21).trans (if_pos rfl), if_pos rfl⟩

/-- RTI resumes at `v` with the flags `f` when the slots of `sp`, `sp - 1` and `sp - 2` hold `v` and the status image of `f` and SP is
three below `sp`, where it leaves SP (46_break_return.md R246). -/
theorem rti_resumes {u : State} {sp : Byte} {v : Addr} {f : Flags} (hsp : u.sp = sp - 3) (hhi : u.memRead (stackAddr sp) = hi8 v)
    (hlo : u.memRead (stackAddr (sp - 1)) = lo8 v) (hstatus : u.memRead (stackAddr (sp - 2)) = statusByte f) :
    ∃ r, exec .rti u = .next r ∧ r.pc = v ∧ r.flags = f ∧ r.sp = sp := by
  have hsp1 : u.sp + 1 = sp - 2 := by bv_omega
  have hsp2 : u.sp + 2 = sp - 1 := by bv_omega
  have hsp3 : u.sp + 3 = sp := by bv_omega
  refine ⟨_, rti_eq_after 6 u, ?pc, ?flags, hsp3⟩
  case pc =>
    change word16 (u.memRead (stackAddr (u.sp + 3))) (u.memRead (stackAddr (u.sp + 2))) = v
    rw [hsp2, hsp3, hhi, hlo, word16_hi8_lo8]
  case flags =>
    change flagsOfByte (u.memRead (stackAddr (u.sp + 1))) = f
    rw [hsp1, hstatus, flagsOfByte_statusByte]

/-- Settles O49: BRK leaves `pc + 2` and the flags from before it in three different slots, and RTI takes both from there. -/
theorem rtiResumesTwoBehindItsBrk : Obligations.RtiResumesTwoBehindItsBrk := by
  intro s
  refine ⟨_, brk_eq_after 7 s, rfl, fun u hsp hslotHi hslotLo hslotStatus => ?_⟩
  obtain ⟨hhi, hlo, hstatus⟩ := byteAfter_three_pushes s s.sp (hi8 (s.pc + 2)) (lo8 (s.pc + 2)) (statusByte s.flags)
  rw [after_memRead] at hslotHi hslotLo hslotStatus
  exact rti_resumes hsp (hslotHi.trans hhi) (hslotLo.trans hlo) (hslotStatus.trans hstatus)

end Sys2Proof.Machine
end

section
/-! PROOF. The chip register tracker (spec/47_chip_tracker.md R261 to R274): a voice by its number and a register by its number in the
voice, what a write of one register leaves of the others, and from these the resolved fields, the hook, the replay and the flush. -/

namespace Sys2Proof.Machine

/-! ### The stored bytes by number -/

/-- Register `r` (0 to 6) of a voice (47_chip_tracker.md R264). -/
def Voice.reg (r : Nat) (vc : Voice) : Byte :=
  match r with
  | 0 => vc.freqLo
  | 1 => vc.freqHi
  | 2 => vc.pwLo
  | 3 => vc.pwHi
  | 4 => vc.ctrl
  | 5 => vc.ad
  | _ => vc.sr

/-- Voice number `n` (1, 2 or 3). -/
def Tracker.voice (n : Nat) (t : Tracker) : Voice :=
  match n with
  | 1 => t.voice1
  | 2 => t.voice2
  | _ => t.voice3

/-- The shared byte `filt[k]` (0 to 3). -/
def Tracker.filt (k : Nat) (t : Tracker) : Byte :=
  match k with
  | 0 => t.filt0
  | 1 => t.filt1
  | 2 => t.filt2
  | _ => t.filt3

/-- The first 21 bytes of the map are three voices of seven registers (47_chip_tracker.md R264). -/
theorem chipField_eq_reg {off : Nat} (h : off ≤ 0x14) (t : Tracker) :
    chipField off t = (t.voice (off / 7 + 1)).reg (off % 7) := by
  interval_cases off <;> rfl

/-- The last four bytes of the map are the shared ones (47_chip_tracker.md R264). -/
theorem chipField_eq_filt {off : Nat} (h : 0x14 < off) (h' : off < 25) (t : Tracker) :
    chipField off t = t.filt (off - 0x15) := by
  interval_cases off <;> rfl

/-! ### One write -/

theorem write_reg {r r' : Nat} (hr : r < 7) (hr' : r' < 7) (value : Byte) (frame : Nat) (vc : Voice) :
    (Voice.write r value frame vc).reg r' = if r' = r then value else vc.reg r' := by
  interval_cases r <;> interval_cases r' <;> rfl

@[simp] theorem write_lastWrite (r : Nat) (value : Byte) (frame : Nat) (vc : Voice) :
    (Voice.write r value frame vc).lastWrite = some frame := by
  unfold Voice.write
  split <;> rfl

theorem onVoice_voice {n n' : Nat} (hn : n < 3) (hn' : n' < 3) (f : Voice → Voice) (t : Tracker) :
    (t.onVoice (n + 1) f).voice (n' + 1) = if n' = n then f (t.voice (n' + 1)) else t.voice (n' + 1) := by
  interval_cases n <;> interval_cases n' <;> rfl

@[simp] theorem onVoice_filt (n k : Nat) (f : Voice → Voice) (t : Tracker) : (t.onVoice n f).filt k = t.filt k := by
  unfold Tracker.onVoice
  split <;> rfl

@[simp] theorem setFilt_voice (k n : Nat) (value : Byte) (t : Tracker) : (t.setFilt k value).voice n = t.voice n := by
  unfold Tracker.setFilt
  split <;> rfl

theorem setFilt_filt {k k' : Nat} (hk : k < 4) (hk' : k' < 4) (value : Byte) (t : Tracker) :
    (t.setFilt k value).filt k' = if k' = k then value else t.filt k' := by
  interval_cases k <;> interval_cases k' <;> rfl

theorem writeReg_of_voice {off : Nat} (h : off ≤ 0x14) (value : Byte) (frame : Nat) (t : Tracker) :
    t.writeReg off value frame = t.onVoice (off / 7 + 1) (Voice.write (off % 7) value frame) := if_pos h

theorem writeReg_of_filt {off : Nat} (h : 0x14 < off) (value : Byte) (frame : Nat) (t : Tracker) :
    t.writeReg off value frame = t.setFilt (off - 0x15) value := if_neg (by omega)

/-- A write at an offset replaces the byte of that offset and no other (47_chip_tracker.md R262). -/
theorem chipField_writeReg {off k : Nat} (hoff : off < 25) (hk : k < 25) (value : Byte) (frame : Nat) (t : Tracker) :
    chipField k (t.writeReg off value frame) = if k = off then value else chipField k t := by
  by_cases hvoice : off ≤ 0x14 <;> by_cases hkvoice : k ≤ 0x14
  · rw [writeReg_of_voice hvoice, chipField_eq_reg hkvoice, chipField_eq_reg hkvoice, onVoice_voice (by omega) (by omega)]
    by_cases hn : k / 7 = off / 7
    · rw [if_pos hn, write_reg (by omega) (by omega)]
      exact if_congr (by omega) rfl rfl
    · rw [if_neg hn, if_neg (by omega)]
  · rw [writeReg_of_voice hvoice, chipField_eq_filt (by omega) hk, chipField_eq_filt (by omega) hk, onVoice_filt,
      if_neg (by omega)]
  · rw [writeReg_of_filt (by omega), chipField_eq_reg hkvoice, chipField_eq_reg hkvoice, setFilt_voice, if_neg (by omega)]
  · rw [writeReg_of_filt (by omega), chipField_eq_filt (by omega) hk, chipField_eq_filt (by omega) hk,
      setFilt_filt (by omega) (by omega)]
    exact if_congr (by omega) rfl rfl

/-- A write stamps the voice that its offset belongs to, if it belongs to one (47_chip_tracker.md R262). -/
theorem writeReg_lastWrite {off n : Nat} (hn : n < 3) (value : Byte) (frame : Nat) (t : Tracker) :
    ((t.writeReg off value frame).voice (n + 1)).lastWrite =
      if 7 * n ≤ off ∧ off < 7 * n + 7 then some frame else (t.voice (n + 1)).lastWrite := by
  by_cases hvoice : off ≤ 0x14
  · rw [writeReg_of_voice hvoice, onVoice_voice (by omega) hn]
    by_cases h : n = off / 7
    · rw [if_pos h, if_pos (by omega), write_lastWrite]
    · rw [if_neg h, if_neg (by omega)]
  · rw [writeReg_of_filt (by omega), setFilt_voice, if_neg (by omega)]

theorem writeReg_voice1_lastWrite (off : Nat) (value : Byte) (frame : Nat) (t : Tracker) :
    (t.writeReg off value frame).voice1.lastWrite = if off < 7 then some frame else t.voice1.lastWrite :=
  (writeReg_lastWrite (n := 0) (by decide) value frame t).trans (if_congr (by omega) rfl rfl)

theorem writeReg_voice2_lastWrite (off : Nat) (value : Byte) (frame : Nat) (t : Tracker) :
    (t.writeReg off value frame).voice2.lastWrite = if 7 ≤ off ∧ off < 14 then some frame else t.voice2.lastWrite :=
  writeReg_lastWrite (n := 1) (by decide) value frame t

theorem writeReg_voice3_lastWrite (off : Nat) (value : Byte) (frame : Nat) (t : Tracker) :
    (t.writeReg off value frame).voice3.lastWrite = if 14 ≤ off ∧ off < 21 then some frame else t.voice3.lastWrite :=
  writeReg_lastWrite (n := 2) (by decide) value frame t

theorem onWrite_tracker_of_inWindow {a : Addr} (h : inWindow a = true) (v : Byte) (frame : Nat) (s : State) :
    (s.onWrite a v frame).tracker = s.tracker.writeReg (a.toNat - 0xD400) v frame := by
  rw [onWrite_tracker, Tracker.apply, if_pos h, windowOffset_eq a h]

theorem onWrite_frame (a : Addr) (v : Byte) (frame : Nat) (s : State) :
    s.onWrite a v frame =
      { s with tracker := (s.onWrite a v frame).tracker, pending := (s.onWrite a v frame).pending } := by
  unfold State.onWrite
  split <;> rfl

/-- Settles O34: outside the window the hook is the identity; inside it writes one register, whose byte and whose voice's stamp alone
change. -/
theorem onWriteUpdatesExactlyOneChipByte : Obligations.OnWriteUpdatesExactlyOneChipByte := by
  intro s a v frame
  rw [← inWindow_iff]
  refine ⟨fun hout => if_neg hout, fun hin => ?_⟩
  have hoff : a.toNat - 0xD400 < 25 := by
    have := (inWindow_iff a).mp hin
    omega
  refine ⟨?pending, ?bytes, ?voice1, ?voice2, ?voice3, onWrite_frame a v frame s⟩
  case pending => rw [onWrite_pending, if_pos hin]
  all_goals rw [onWrite_tracker_of_inWindow hin]
  case bytes => exact fun k hk => chipField_writeReg hoff hk v frame s.tracker
  case voice1 => exact writeReg_voice1_lastWrite _ v frame s.tracker
  case voice2 => exact writeReg_voice2_lastWrite _ v frame s.tracker
  case voice3 => exact writeReg_voice3_lastWrite _ v frame s.tracker

/-! ### The resolved fields -/

theorem resolve_pulseWidth_toNat (vc : Voice) :
    (resolve vc).pulseWidth.toNat = vc.pwHi.toNat % 0x10 * 0x100 + vc.pwLo.toNat := by
  have hlo := vc.pwLo.isLt
  simp only [resolve, BitVec.toNat_append, BitVec.extractLsb'_toNat, Nat.shiftRight_zero]
  rw [← Nat.shiftLeft_add_eq_or_of_lt hlo, Nat.shiftLeft_eq]

theorem bit0_eq (v : Byte) : v.getLsbD 0 = decide (v.toNat % 2 = 1) := by
  revert v; decide

theorem highNibble_toNat (v : Byte) : (v.extractLsb' 4 4).toNat = v.toNat / 0x10 := by
  have hv := v.isLt
  rw [BitVec.extractLsb'_toNat, Nat.shiftRight_eq_div_pow]
  omega

theorem lowNibble_toNat (v : Byte) : (v.extractLsb' 0 4).toNat = v.toNat % 0x10 := BitVec.extractLsb'_toNat 0 4 v

/-- Settles O36: two concatenations, bit 0, and the nibbles of two bytes, each by unsigned value. -/
theorem resolveSplitsTheStoredBytes : Obligations.ResolveSplitsTheStoredBytes := by
  intro vc
  refine ⟨?frequency, ?pulseWidth, rfl, bit0_eq vc.ctrl, highNibble_toNat vc.ad, lowNibble_toNat vc.ad, highNibble_toNat vc.sr,
    lowNibble_toNat vc.sr, rfl⟩
  case frequency =>
    rw [Nat.mul_comm]
    exact word16_toNat vc.freqHi vc.freqLo
  case pulseWidth =>
    rw [Nat.mul_comm]
    exact resolve_pulseWidth_toNat vc

/-! ### Replay -/

/-- One event replaces the byte at its own address and no other. -/
theorem chipField_apply {a : Addr} (ha : inWindow a = true) (t : Tracker) (e : Event) :
    chipField (windowOffset a) (t.apply e) = if e.addr = a then e.value else chipField (windowOffset a) t := by
  have hrange := (inWindow_iff a).mp ha
  rw [Tracker.apply, windowOffset_eq a ha]
  by_cases he : inWindow e.addr = true
  · have herange := (inWindow_iff e.addr).mp he
    have hsame : a.toNat - 0xD400 = e.addr.toNat - 0xD400 ↔ e.addr = a := by
      rw [← BitVec.toNat_inj]
      omega
    rw [if_pos he, windowOffset_eq e.addr he, chipField_writeReg (by omega) (by omega)]
    simp only [hsame]
  · have hne : e.addr ≠ a := fun heq => he (heq ▸ ha)
    rw [if_neg he, if_neg hne]

/-- After a replay every chip byte is the one last written at its address (47_chip_tracker.md R268, R269). -/
theorem chipField_replay {a : Addr} (ha : inWindow a = true) (events : List Event) (t : Tracker) :
    chipField (windowOffset a) (replay t events) = lastWritten a events (chipField (windowOffset a) t) := by
  induction events generalizing t with
  | nil => rfl
  | cons e events ih => rw [replay_cons, ih, chipField_apply ha]; rfl

/-- The frequency resolved from two bytes, however they came there. -/
theorem resolve_frequency {vc : Voice} {hi lo : Byte} (hhi : vc.freqHi = hi) (hlo : vc.freqLo = lo) :
    (resolve vc).frequency = word16 hi lo := by
  rw [← hhi, ← hlo]; rfl

/-- The pulse width resolved from two bytes, however they came there. -/
theorem resolve_pulseWidth {vc : Voice} {hi lo : Byte} (hhi : vc.pwHi = hi) (hlo : vc.pwLo = lo) :
    (resolve vc).pulseWidth.toNat = hi.toNat % 0x10 * 0x100 + lo.toNat := by
  rw [← hhi, ← hlo, resolve_pulseWidth_toNat]

/-- Settles O35: each half is the byte last written at its address, and resolving reads the two halves after the replay. -/
theorem sixteenBitFieldsResolveFromTheLastHalves : Obligations.SixteenBitFieldsResolveFromTheLastHalves := by
  intro t events
  refine ⟨?freq1, ?freq2, ?freq3, ?pw1, ?pw2, ?pw3⟩
  case freq1 => exact resolve_frequency (chipField_replay (a := 0xD401) rfl events t) (chipField_replay (a := 0xD400) rfl events t)
  case freq2 => exact resolve_frequency (chipField_replay (a := 0xD408) rfl events t) (chipField_replay (a := 0xD407) rfl events t)
  case freq3 => exact resolve_frequency (chipField_replay (a := 0xD40F) rfl events t) (chipField_replay (a := 0xD40E) rfl events t)
  case pw1 => exact resolve_pulseWidth (chipField_replay (a := 0xD403) rfl events t) (chipField_replay (a := 0xD402) rfl events t)
  case pw2 => exact resolve_pulseWidth (chipField_replay (a := 0xD40A) rfl events t) (chipField_replay (a := 0xD409) rfl events t)
  case pw3 => exact resolve_pulseWidth (chipField_replay (a := 0xD411) rfl events t) (chipField_replay (a := 0xD410) rfl events t)

/-- Settles O37: the flushed frame holds the pending events and the snapshot, and nothing but `pending` and the Trace changes. -/
theorem flushDeliversTheFrameAndEmptiesPending : Obligations.FlushDeliversTheFrameAndEmptiesPending := fun _ _ => rfl

/-- Settles O38: the events of a step are those of the writes of its effect. -/
theorem stepsOnlyAppendWindowEventsAndReplayThem : Obligations.StepsOnlyAppendWindowEventsAndReplayThem := by
  intro s t h
  obtain ⟨i, -, rfl⟩ := eq_after_of_step h
  refine ⟨_, after_pending s _, after_tracker s _, fun e he => ?_, after_curFrame s _, after_trace s _⟩
  obtain ⟨hframe, hwindow⟩ := eventsOf_mem _ _ e he
  exact ⟨hframe, (inWindow_iff e.addr).mp hwindow⟩

end Sys2Proof.Machine
end

section
/-! PROOF. The cost of every instruction (spec/70_reset_and_hazards.md R371): the table's number for its form and the additions to it. -/

namespace Sys2Proof.Machine

/-- The cost table has a number for the form of every instruction, from 2 to 7; a mnemonic that pays for page crosses has at most 6,
and a branch has 2. -/
theorem baseCycles_bounds (i : Instr) :
    ∃ base, baseCycles i.mnemonic i.mode = some base ∧ 2 ≤ base ∧ base ≤ 7 ∧
      (i.mnemonic ∈ paysPageCross → base ≤ 6) ∧ (i.mode = .rel → base = 2) := by
  have h : (baseCycles i.mnemonic i.mode).any (fun base => decide (2 ≤ base ∧ base ≤ 7 ∧
      (i.mnemonic ∈ paysPageCross → base ≤ 6) ∧ (i.mode = .rel → base = 2))) = true := by
    -- As an equation of `Bool`s each case evaluates, whatever the operand.
    cases i <;> rfl
  obtain ⟨base, hbase, hbounds⟩ := (Option.any_eq_true _ _).mp h
  exact ⟨base, hbase, of_decide_eq_true hbounds⟩

theorem pageCost_le_one (base ea : Addr) : pageCost base ea ≤ 1 := by
  unfold pageCost
  split <;> decide

/-- The operand address of an absolute indexed form is `b2, b1`. -/
theorem operandAddr_eq_operand16 {i : Instr} (h : i.mode = .abx ∨ i.mode = .aby) : operandAddr i = operand16 i := by
  cases i with
  | ldaAbx w | ldaAby w | ldxAby w | ldyAbx w | staAbx w | staAby w | andAbx w | andAby w | oraAbx w | oraAby w
  | eorAbx w | eorAby w | adcAbx w | adcAby w | sbcAbx w | sbcAby w | cmpAbx w | cmpAby w | incAbx w | decAbx w
  | aslAbx w | lsrAbx w | rolAbx w | rorAbx w => exact (word16_hi8_lo8 w).symm
  | _ => rcases h with h | h <;> cases h

/-- The addition to the cost of a form that is no branch is the page-cross bit, where the mnemonic pays it. -/
theorem extraCycles_of_ne_rel {i : Instr} (h : i.mode ≠ .rel) (s : State) :
    extraCycles i s = if i.mnemonic ∈ paysPageCross then (pageCrossed i s).toNat else 0 := by
  cases hmode : i.mode with
  | abx => simp only [extraCycles, pageCrossed, hmode, ← operandAddr_eq_operand16 (.inl hmode), pxAbx, eaAbx, crossed_toNat]
  | aby => simp only [extraCycles, pageCrossed, hmode, ← operandAddr_eq_operand16 (.inr hmode), pxAby, eaAby, crossed_toNat]
  | izy => simp only [extraCycles, pageCrossed, hmode, pxIzy, eaIzy, crossed_toNat]
  | rel => exact absurd hmode h
  | _ => simp only [extraCycles, pageCrossed, hmode, Bool.toNat_false, ite_self]

theorem extraCycles_of_rel {i : Instr} (h : i.mode = .rel) (s : State) :
    extraCycles i s = if branchTaken i.mnemonic s.flags then 1 + pageCost (s.pc + 2) (branchTarget (operand8 i) s) else 0 := by
  simp only [extraCycles, h]
  rfl

theorem branches_cycles (s : State) (taken : Bool) (disp : Byte) :
    (s.branches taken disp).cycles = 2 + if taken then 1 + pageCost (s.pc + 2) (branchTarget disp s) else 0 := by
  cases taken with
  | false => rfl
  | true => exact Nat.add_assoc 2 1 _

/-- A shift costs what its form says; the accumulator forms all cost 2. -/
theorem shiftsAt_cycles {o : Access} (ho : o.mode = .acc → o.cycles = 2) (s : State) (rule : ShiftRule) :
    (s.shiftsAt rule o).cycles = o.cycles := by
  unfold State.shiftsAt
  split
  · next h => exact (ho h).symm
  · rfl

theorem access_cycles_of_acc {i : Instr} (h : i.mode = .acc) (s : State) : (access i s).cycles = 2 := by
  cases i with
  | aslAcc | lsrAcc | rolAcc | rorAcc => rfl
  | _ => cases h

/-- Every effect but a branch's costs what the form says. -/
theorem effectOf_cycles_of_ne_rel {i : Instr} (h : i.mode ≠ .rel) (s : State) :
    (effectOf i.mnemonic (access i s) s).cycles = (access i s).cycles := by
  have hacc : (access i s).mode = .acc → (access i s).cycles = 2 := fun hm => access_cycles_of_acc hm s
  generalize access i s = o at hacc
  cases i with
  | bpl | bmi | bvc | bvs | bcc | bcs | bne | beq => exact absurd rfl h
  | aslAcc | aslZp | aslZpx | aslAbs | aslAbx | lsrAcc | lsrZp | lsrZpx | lsrAbs | lsrAbx
  | rolAcc | rolZp | rolZpx | rolAbs | rolAbx | rorAcc | rorZp | rorZpx | rorAbs | rorAbx => exact shiftsAt_cycles hacc s _
  | _ => rfl

/-- The cost of the effect is the table's number and the additions to it. -/
theorem effectOf_cycles {i : Instr} {base : Nat} (hbase : baseCycles i.mnemonic i.mode = some base)
    (hrel : i.mode = .rel → base = 2) (s : State) :
    (effectOf i.mnemonic (access i s) s).cycles = base + extraCycles i s := by
  by_cases h : i.mode = .rel
  · rw [effectOf_of_rel h, branches_cycles, extraCycles_of_rel h, hrel h]
  · rw [effectOf_cycles_of_ne_rel h, extraCycles_of_ne_rel h, access, hbase]
    rfl

/-- A branch costs at most 2 more, an indexed read that pays for a page cross 1 more, every other form nothing. -/
theorem extraCycles_le (i : Instr) (s : State) :
    extraCycles i s ≤ if i.mode = .rel then 2 else if i.mnemonic ∈ paysPageCross then 1 else 0 := by
  by_cases h : i.mode = .rel
  · rw [extraCycles_of_rel h, if_pos h]
    have hpage := pageCost_le_one (s.pc + 2) (branchTarget (operand8 i) s)
    split <;> omega
  · rw [extraCycles_of_ne_rel h, if_neg h]
    have hpage := (pageCrossed i s).toNat_le
    split <;> omega

/-- Settles O46: the cycles of the effect of each mnemonic, and the bounds of the two addends. -/
theorem cyclesAreThoseOfTheCostTable : Obligations.CyclesAreThoseOfTheCostTable := by
  intro i s t h
  obtain ⟨base, hbase, hlo, hhi, hpays, hrel⟩ := baseCycles_bounds i
  have hcycles := effectOf_cycles hbase hrel s
  have hused : t.used = s.used + (effectOf i.mnemonic (access i s) s).cycles := by rw [eq_after_of_exec h]; rfl
  have hextra := extraCycles_le i s
  refine ⟨base, hbase, by omega, by omega, ?_⟩
  split at hextra
  · have := hrel ‹_›
    omega
  · split at hextra
    · have := hpays ‹_›
      omega
    · omega

end Sys2Proof.Machine
end

section
/-! PROOF. `run_until` (spec/70_reset_and_hazards.md R346, spec/60_exceptions.md R302): what one step of a run can do, that the model's
bound on the steps never shows, and how far a run goes past its ceiling. -/

namespace Sys2Proof.Machine

/-- A step completes, or it faults with `PC` and the byte there. -/
theorem step_next_or_unsupported (s : State) :
    (∃ t, step s = .next t) ∨ step s = .fault (.unsupportedOpcode s.pc (s.memRead s.pc)) := by
  obtain ⟨hfault, hnext⟩ := stepFaultsExactlyWhereListed s
  exact (em _).symm.imp hnext hfault

/-- A completed step costs at least 2 cycles and at most 7 (70_reset_and_hazards.md R372). -/
theorem step_used {s t : State} (h : step s = .next t) : s.used + 2 ≤ t.used ∧ t.used ≤ s.used + 7 := by
  obtain ⟨i, hi, -⟩ := eq_after_of_step h
  rw [step_of_fetch_some hi] at h
  obtain ⟨base, -, hused, hlo, hhi⟩ := cyclesAreThoseOfTheCostTable i s t h
  omega

/-! ### The loop -/

/-- Where as many steps are left as the ceiling can pay for, one more makes no difference. -/
theorem runLoop_succ_eq {cond : State → Bool} {ceiling steps : Nat} {s : State} (h : ceiling < s.used + 2 * steps) :
    runLoop cond ceiling (steps + 1) s = runLoop cond ceiling steps s := by
  induction steps generalizing s with
  | zero => rw [runLoop_succ, runLoop_zero, if_pos (show s.used > ceiling from h)]
  | succ steps ih =>
    rw [runLoop_succ, runLoop_succ cond ceiling steps]
    cases hstep : step s with
    | next t =>
      have hused := step_used hstep
      have ht : ceiling < t.used + 2 * steps := by omega
      simp only [ih ht]
    | fault | refused => rfl

/-- Settles O56: with the bound on the steps, the loop after one step still has all the steps its ceiling can pay for. -/
theorem runUntilFollowsItsLoop : Obligations.RunUntilFollowsItsLoop := by
  intro cond ceiling s
  refine ⟨rfl, ?_⟩
  rw [maxSteps, runLoop_succ]
  cases hstep : step s with
  | next t =>
    have hused := step_used hstep
    have ht : ceiling < t.used + 2 * (ceiling / 2) := by omega
    simp only [runLoop_succ_eq ht]
    rfl
  | fault | refused => rfl

/-! ### Where a run ends -/

/-- What a run's answer says of the state it leaves: it ends by its predicate, or above the ceiling, at most 7 cycles beyond it, or at a
faulting opcode that the ceiling still pays for; it is never refused. -/
def RunResult.Sound (cond : State → Bool) (ceiling : Nat) : RunResult → Prop
  | .done used t => cond t = true ∧ used = t.used ∧ used ≤ ceiling + 7
  | .fault (.infiniteLoopDetected pc op used) t =>
    cond t = false ∧ pc = t.pc ∧ op = t.memRead t.pc ∧ used = t.used ∧ ceiling < used ∧ used ≤ ceiling + 7
  | .fault (.unsupportedOpcode pc op) t => cond t = false ∧ pc = t.pc ∧ op = t.memRead t.pc ∧ t.used ≤ ceiling
  | .refused _ _ => False

theorem loopDetected_sound {cond : State → Bool} {ceiling : Nat} {s : State} (hcond : cond s = false) (hlo : ceiling < s.used)
    (hhi : s.used ≤ ceiling + 7) : (loopDetected s).Sound cond ceiling := ⟨hcond, rfl, rfl, rfl, hlo, hhi⟩

/-- A step is taken only at a sum within the ceiling, so it leaves one at most 7 beyond it. -/
theorem runLoop_sound {cond : State → Bool} {ceiling steps : Nat} {s : State} (hsteps : ceiling < s.used + 2 * steps)
    (hused : s.used ≤ ceiling + 7) : (runLoop cond ceiling steps s).Sound cond ceiling := by
  induction steps generalizing s with
  | zero =>
    rw [runLoop_zero]
    split
    · next hcond => exact ⟨hcond, rfl, hused⟩
    · next hcond => exact loopDetected_sound (Bool.not_eq_true _ ▸ hcond) hsteps hused
  | succ steps ih =>
    rw [runLoop_succ]
    split
    · next hcond => exact ⟨hcond, rfl, hused⟩
    · next hcond =>
      have hcond : cond s = false := Bool.not_eq_true _ ▸ hcond
      split
      · next hover => exact loopDetected_sound hcond hover hused
      · next hwithin =>
        obtain ⟨t, hstep⟩ | hstep := step_next_or_unsupported s
        · have ht := step_used hstep
          rw [hstep]
          exact ih (by omega) (by omega)
        · rw [hstep]
          exact ⟨hcond, rfl, rfl, Nat.le_of_not_lt hwithin⟩

theorem runUntil_sound (cond : State → Bool) (ceiling : Nat) (s : State) : (runUntil cond ceiling s).Sound cond ceiling := by
  apply runLoop_sound
  · rw [maxSteps]
    omega
  · exact Nat.zero_le _

/-- Settles O57: each end of a run is what `RunResult.Sound` says of it. -/
theorem runsStopWithinSevenCyclesOfTheCeiling : Obligations.RunsStopWithinSevenCyclesOfTheCeiling := by
  intro cond ceiling s
  have h := runUntil_sound cond ceiling s
  refine ⟨fun used t hrun => ?_, fun pc op used t hrun => ?_, fun pc op t hrun => ?_, fun r t hrun => ?_⟩
  all_goals
    rw [hrun] at h
    exact h

end Sys2Proof.Machine
end

section
/-! PROOF. How a session opens and how a routine is entered (spec/10_state.md R55, spec/70_reset_and_hazards.md R340 to R347): the reset
values, the Loader, placement, and `Call`. -/

namespace Sys2Proof.Machine

theorem reset_chipField : ∀ k < 25, chipField k Tracker.reset = 0x00 := by decide

/-- Settles O52: each field of the reset by its definition; an empty memory reads 0x00. -/
theorem sessionResetLeavesTheTableOfValues : Obligations.SessionResetLeavesTheTableOfValues := by
  intro initA
  exact ⟨rfl, rfl, rfl, rfl, rfl, rfl, fun addr => Memory.read_nil addr.toNat, reset_chipField, rfl, rfl, rfl, rfl, rfl, rfl⟩

/-! ### The Loader -/

theorem splitFile_of_short {file : List Byte} (h : file.length < 2) : splitFile file none = none := by
  match file, h with
  | [], _ => rfl
  | [_], _ => rfl

/-- An override takes the whole file; without one the first two bytes are the load address, low byte first. -/
theorem splitFile_eq_some {file payload : List Byte} {override : Option Addr} {addr : Addr}
    (h : (override = some addr ∧ payload = file) ∨
      (override = none ∧ ∃ lo hi : Byte, file = lo :: hi :: payload ∧ addr.toNat = lo.toNat + 0x100 * hi.toNat)) :
    splitFile file override = some (addr, payload) := by
  obtain ⟨rfl, rfl⟩ | ⟨rfl, lo, hi, rfl, haddr⟩ := h
  · rfl
  · have hword : addr = word16 hi lo := by
      apply BitVec.eq_of_toNat_eq
      rw [word16_toNat, haddr]
      omega
    rw [hword]
    rfl

theorem load_of_split_none {file : List Byte} {o : Overrides} (h : splitFile file o.loadAddr = none) (frameCount : Nat) :
    load file o frameCount = .error .formatError := by
  simp only [load, h]

theorem load_of_split_some {file payload : List Byte} {o : Overrides} {addr : Addr}
    (h : splitFile file o.loadAddr = some (addr, payload)) (frameCount : Nat) :
    load file o frameCount =
      if addr.toNat + payload.length > 0x10000 then .error .formatError
      else .ok ⟨addr, payload, o.initAddr.getD addr, o.playAddr.getD addr, frameCount⟩ := by
  simp only [load, h]

/-- Settles O53: the split of the file, the size check, and a failing Loader as the answer of `capture`. -/
theorem loaderAcceptsExactlyWhatFits : Obligations.LoaderAcceptsExactlyWhatFits := by
  intro file o n
  refine ⟨fun hnone hshort => ?short, fun addr payload hsplit => ⟨fun hbeyond => ?beyond, fun hfits => ?fits⟩, fun hload p => ?bare⟩
  case short => exact load_of_split_none (hnone ▸ splitFile_of_short hshort) n
  case beyond => rw [load_of_split_some (splitFile_eq_some hsplit), if_pos hbeyond]
  case fits => rw [load_of_split_some (splitFile_eq_some hsplit), if_neg (Nat.not_lt.mpr hfits)]
  case bare => simp only [capture, hload]

/-! ### Placement -/

/-- A stored list is read back at its distance from the first address; every other address reads what it did. -/
theorem storeBytes_memRead {bytes : List Byte} (hlen : bytes.length ≤ 0x10000) (a : Addr) (s : State) (addr : Addr) :
    (storeBytes bytes a s).memRead addr = (bytes[(addr - a).toNat]?).getD (s.memRead addr) := by
  induction bytes generalizing a s with
  | nil => rfl
  | cons b rest ih =>
    rw [List.length_cons] at hlen
    rw [storeBytes, ih (by omega), hostWrite_memRead]
    by_cases h : addr = a
    · -- The address just stored lies 0xFFFF beyond the next one, behind the end of the rest.
      have hend : rest.length ≤ (addr - (a + 1)).toNat := by
        rw [h]
        bv_omega
      rw [if_pos h, List.getElem?_eq_none hend, h, BitVec.sub_self]
      rfl
    · have hnext : (addr - a).toNat = (addr - (a + 1)).toNat + 1 := by bv_omega
      rw [if_neg h, hnext, List.getElem?_cons_succ]

theorem openSession_eq (p : Params) (l : Launch) :
    openSession p l = { State.sessionReset p.initA with mem := (openSession p l).mem } := storeBytes_eq _ _ _

/-- Settles O54: a payload that ends inside the address space does not wrap, and the reset memory reads 0x00. -/
theorem placementPutsThePayloadAndNothingElse : Obligations.PlacementPutsThePayloadAndNothingElse := by
  intro p l hwf
  have hfits : l.loadAddr.toNat + l.payload.length ≤ 0x10000 := of_decide_eq_true hwf
  refine ⟨fun addr => ?_, openSession_eq p l⟩
  have hread : (openSession p l).memRead addr = (l.payload[(addr - l.loadAddr).toNat]?).getD 0x00 :=
    storeBytes_memRead (by omega) l.loadAddr (State.sessionReset p.initA) addr
  rw [hread]
  split
  · next hin =>
    have hoff : (addr - l.loadAddr).toNat = addr.toNat - l.loadAddr.toNat := by bv_omega
    rw [hoff, List.getD_eq_getElem?_getD]
  · next hout =>
    have hend : l.payload.length ≤ (addr - l.loadAddr).toNat := by bv_omega
    rw [List.getElem?_eq_none hend, Option.getD_none]

/-! ### `Call` -/

theorem enterRoutine_memRead (p : Params) (entry : Addr) (s : State) (addr : Addr) :
    (enterRoutine p entry s).memRead addr =
      if addr = 0x01FE then lo8 (p.sentinel - 1) else if addr = 0x01FF then hi8 (p.sentinel - 1) else s.memRead addr := by
  simp only [enterRoutine, setPc_memRead, setSp_memRead, hostWrite_memRead]

/-- Entering a routine changes `PC`, `SP` and memory only: the planted bytes make no event (70_reset_and_hazards.md R347). -/
theorem enterRoutine_eq (p : Params) (entry : Addr) (s : State) :
    enterRoutine p entry s = { s with pc := entry, sp := 0xFD, mem := (enterRoutine p entry s).mem } := by
  simp only [enterRoutine, State.setPc, State.setSp, State.hostWrite, State.setMem]

/-- An RTS of the entered routine pulls the planted `SENTINEL - 1` (44_control_flow.md R213). -/
theorem rts_of_enterRoutine (p : Params) (entry : Addr) (s : State) :
    ∃ u, exec .rts (enterRoutine p entry s) = .next u ∧ u.pc = p.sentinel ∧ u.sp = 0xFF := by
  have hhi : (enterRoutine p entry s).memRead (stackAddr 0xFF) = hi8 (p.sentinel - 1) := enterRoutine_memRead p entry s 0x01FF
  have hlo : (enterRoutine p entry s).memRead (stackAddr (0xFF - 1)) = lo8 (p.sentinel - 1) := enterRoutine_memRead p entry s 0x01FE
  obtain ⟨u, hexec, hpc, hsp⟩ := rts_resumes rfl hhi hlo
  exact ⟨u, hexec, hpc.trans (BitVec.sub_add_cancel p.sentinel 1), hsp⟩

/-- Settles O55: `Call` by its definition, and the two planted bytes as an RTS reads them. -/
theorem callPlantsAReturnToTheSentinel : Obligations.CallPlantsAReturnToTheSentinel := by
  intro p entry ceiling s
  exact ⟨call_eq p entry ceiling s, fun u => beq_iff_eq, rfl, rfl, enterRoutine_memRead p entry s, enterRoutine_eq p entry s,
    rts_of_enterRoutine p entry s⟩

end Sys2Proof.Machine
end

section
/-! PROOF. Sessions and captures (spec/70_reset_and_hazards.md R350 to R358): what a run keeps, a session of `n + 1` frames as one of `n`
frames and one play call more, the induction this gives, and from it the obligations about Traces. -/

namespace Sys2Proof.Machine

/-! ### What a run keeps -/

/-- The state a run leaves. -/
def RunResult.state : RunResult → State
  | .done _ s => s
  | .fault _ s => s
  | .refused _ s => s

/-- What every step keeps, a run keeps. -/
theorem runLoop_induction {P : State → Prop} (hstep : ∀ s t, P s → step s = .next t → P t) (cond : State → Bool)
    (ceiling steps : Nat) {s : State} (h : P s) : P (runLoop cond ceiling steps s).state := by
  induction steps generalizing s with
  | zero =>
    rw [runLoop_zero]
    split
    · exact h
    · exact h
  | succ steps ih =>
    rw [runLoop_succ]
    split
    · exact h
    · split
      · exact h
      · cases hs : step s with
        | next t => exact ih (hstep s t h hs)
        | fault f => exact h
        | refused r => exact h

/-- What holds where a routine is entered and every step keeps holds where its `Call` ends. -/
theorem call_induction {P : State → Prop} (hstep : ∀ s t, P s → step s = .next t → P t) {p : Params} {entry : Addr} {s : State}
    (h : P { enterRoutine p entry s with used := 0 }) (ceiling : Nat) : P (call p entry ceiling s).state :=
  runLoop_induction hstep _ _ _ h

theorem enterRoutine_inv {s : State} (h : s.Inv) (p : Params) (entry : Addr) : (enterRoutine p entry s).Inv := by
  obtain ⟨hmem, hpending, htrace⟩ := h
  have hwf : (enterRoutine p entry s).mem.wf = true := hostWrite_wf 0x01FE _ _ (hostWrite_wf 0x01FF _ _ hmem)
  rw [enterRoutine_eq]
  exact ⟨hwf, hpending, htrace⟩

theorem call_inv {s : State} (h : s.Inv) (p : Params) (entry : Addr) (ceiling : Nat) : (call p entry ceiling s).state.Inv := by
  have hstart : State.Inv { enterRoutine p entry s with used := 0 } := enterRoutine_inv h p entry
  exact call_induction everyStepKeepsTheInvariant hstart ceiling

/-- `t` has the Trace and frame of `s`, and has recorded some more events, which its tracker has replayed. -/
def Extends (s t : State) : Prop :=
  t.trace = s.trace ∧ t.curFrame = s.curFrame ∧
    ∃ events, t.pending = s.pending ++ events ∧ t.tracker = replay s.tracker events

theorem Extends.step {s t u : State} (h : Extends s t) (hstep : step t = .next u) : Extends s u := by
  obtain ⟨htrace, hframe, events, hpending, htracker⟩ := h
  obtain ⟨more, hpending', htracker', -, hframe', htrace'⟩ := stepsOnlyAppendWindowEventsAndReplayThem t u hstep
  exact ⟨htrace'.trans htrace, hframe'.trans hframe, events ++ more, by rw [hpending', hpending, List.append_assoc],
    by rw [htracker', htracker, replay_append]⟩

theorem enterRoutine_extends (p : Params) (entry : Addr) (s : State) : Extends s { enterRoutine p entry s with used := 0 } := by
  rw [enterRoutine_eq]
  exact ⟨rfl, rfl, [], (List.append_nil _).symm, rfl⟩

/-- A `Call` only adds to the record: entering the routine records nothing, and a step adds its own events. -/
theorem call_extends (p : Params) (entry : Addr) (ceiling : Nat) (s : State) : Extends s (call p entry ceiling s).state :=
  call_induction (P := Extends s) (fun _ _ => Extends.step) (enterRoutine_extends p entry s) ceiling

/-! ### A session frame by frame -/

/-- The session of `n` frames. -/
def session (p : Params) (l : Launch) (n : Nat) : State × Option CaptureError := runSession p { l with frameCount := n }

theorem runSession_eq (p : Params) (l : Launch) : runSession p l = session p l l.frameCount := rfl

theorem captureLaunch_eq (p : Params) (l : Launch) :
    captureLaunch p l = ⟨(session p l l.frameCount).1.trace, (session p l l.frameCount).2⟩ := rfl

/-- The play call of frame `k` and its flush, or its error (70_reset_and_hazards.md R354, R356). -/
def playFrame (p : Params) (l : Launch) (k : Nat) (s : State) : State × Option CaptureError :=
  match call p l.playAddr p.playCeiling (s.setFrame k) with
  | .done _ t => (flush k t, none)
  | .fault f t => (dropPending t, some (playError k f))
  | .refused r t => (dropPending t, some (refusedError k r t))

/-- Go on with a session unless it has failed. -/
def unlessFailed (r : State × Option CaptureError) (next : State → State × Option CaptureError) : State × Option CaptureError :=
  match r.2 with
  | none => next r.1
  | some _ => r

/-- The frame loop by its last frame. -/
theorem playFrames_succ_last (p : Params) (l : Launch) (n k : Nat) (s : State) :
    playFrames p l (n + 1) k s = unlessFailed (playFrames p l n k s) (playFrame p l (k + n)) := by
  induction n generalizing k s with
  | zero =>
    rw [playFrames_succ, playFrames_zero, unlessFailed, playFrame, Nat.add_zero]
    cases call p l.playAddr p.playCeiling (s.setFrame k) <;> rfl
  | succ n ih =>
    rw [playFrames_succ, playFrames_succ p l n]
    cases call p l.playAddr p.playCeiling (s.setFrame k) with
    | done _ t =>
      simp only [ih]
      rw [Nat.add_right_comm, Nat.add_assoc]
    | fault | refused => rfl

theorem playFrames_frameCount (p : Params) (l : Launch) (m n k : Nat) (s : State) :
    playFrames p { l with frameCount := m } n k s = playFrames p l n k s := by
  induction n generalizing k s with
  | zero => rfl
  | succ n ih => simp only [playFrames_succ, ih]

/-- The call a session makes before its frames (70_reset_and_hazards.md R352). -/
def initCall (p : Params) (l : Launch) : RunResult := call p l.initAddr p.initCeiling ((openSession p l).setFrame Config.frameBase)

/-- A session is its init call, then the frame loop, or the init call's error. -/
theorem session_eq (p : Params) (l : Launch) (n : Nat) :
    session p l n =
      match initCall p l with
      | .done _ s => playFrames p l n 0 s
      | .fault f s => (dropPending s, some (initError f))
      | .refused r s => (dropPending s, some (refusedError 0 r s)) := by
  simp only [← playFrames_frameCount p l n]
  rfl

/-- A session of one frame more plays it, unless it failed before. -/
theorem session_succ (p : Params) (l : Launch) (n : Nat) :
    session p l (n + 1) = unlessFailed (session p l n) (playFrame p l n) := by
  rw [session_eq, session_eq]
  cases initCall p l with
  | done _ s =>
    simp only [playFrames_succ_last, Nat.zero_add]
  | fault | refused => rfl

theorem session_succ_of_none {p : Params} {l : Launch} {n : Nat} {s : State} (h : session p l n = (s, none)) :
    session p l (n + 1) = playFrame p l n s := by
  rw [session_succ, h]
  rfl

theorem session_succ_of_error {p : Params} {l : Launch} {n : Nat} {s : State} {e : CaptureError}
    (h : session p l n = (s, some e)) : session p l (n + 1) = (s, some e) := by
  rw [session_succ, h]
  rfl

/-- A failed session is the whole of every longer one. -/
theorem session_of_error_of_le {p : Params} {l : Launch} {n m : Nat} {s : State} {e : CaptureError}
    (h : session p l n = (s, some e)) (hle : n ≤ m) : session p l m = (s, some e) := by
  induction m, hle using Nat.le_induction with
  | base => exact h
  | succ m _ ih => exact session_succ_of_error ih

/-! ### What holds along a session -/

/-- The state the init call leaves. -/
def initState (p : Params) (l : Launch) : State := (initCall p l).state

/-- The state the play call of frame `k` leaves. -/
def playState (p : Params) (l : Launch) (k : Nat) (s : State) : State := (call p l.playAddr p.playCeiling (s.setFrame k)).state

theorem session_zero_cases (p : Params) (l : Launch) :
    session p l 0 = (initState p l, none) ∨
      ∃ e, e.frameIndex = 0 ∧ session p l 0 = (dropPending (initState p l), some e) := by
  rw [session_eq, initState]
  cases initCall p l with
  | done => exact .inl rfl
  | fault f => exact .inr ⟨initError f, by cases f <;> rfl, rfl⟩
  | refused r s => exact .inr ⟨refusedError 0 r s, rfl, rfl⟩

theorem playFrame_cases (p : Params) (l : Launch) (k : Nat) (s : State) :
    playFrame p l k s = (flush k (playState p l k s), none) ∨
      ∃ e, e.frameIndex = k ∧ playFrame p l k s = (dropPending (playState p l k s), some e) := by
  rw [playFrame, playState]
  cases call p l.playAddr p.playCeiling (s.setFrame k) with
  | done => exact .inl rfl
  | fault f => exact .inr ⟨playError k f, by cases f <;> rfl, rfl⟩
  | refused r t => exact .inr ⟨refusedError k r t, rfl, rfl⟩

/-- `P n` holds of the state of every session that has delivered `n` frames, and `Q k` of every one that failed in frame `k`, when both
come from the init call and, by one play call, from the session before. -/
theorem session_induction {p : Params} {l : Launch} {P Q : Nat → State → Prop}
    (hinit : P 0 (initState p l) ∧ Q 0 (dropPending (initState p l)))
    (hplay : ∀ k s, P k s → P (k + 1) (flush k (playState p l k s)) ∧ Q k (dropPending (playState p l k s))) (n : Nat) :
    (∃ s, session p l n = (s, none) ∧ P n s) ∨
      ∃ s e, session p l n = (s, some e) ∧ e.frameIndex ≤ n - 1 ∧ Q e.frameIndex s := by
  induction n with
  | zero =>
    obtain h | ⟨e, hindex, h⟩ := session_zero_cases p l
    · exact .inl ⟨_, h, hinit.1⟩
    · exact .inr ⟨_, e, h, hindex.le, hindex ▸ hinit.2⟩
  | succ n ih =>
    obtain ⟨s, hs, hP⟩ | ⟨s, e, hs, hindex, hQ⟩ := ih
    · rw [session_succ_of_none hs]
      obtain ⟨hflushed, hdropped⟩ := hplay n s hP
      obtain h | ⟨e, hindex, h⟩ := playFrame_cases p l n s
      · exact .inl ⟨_, h, hflushed⟩
      · exact .inr ⟨_, e, h, hindex.le, hindex ▸ hdropped⟩
    · exact .inr ⟨s, e, session_succ_of_error hs, by omega, hQ⟩

theorem initState_trace (p : Params) (l : Launch) : (initState p l).trace = [] := by
  obtain ⟨htrace, -⟩ := call_extends p l.initAddr p.initCeiling ((openSession p l).setFrame Config.frameBase)
  refine htrace.trans ?_
  rw [setFrame_trace, openSession_eq]
  rfl

theorem initState_curFrame (p : Params) (l : Launch) : (initState p l).curFrame = 0 := by
  obtain ⟨-, hframe, -⟩ := call_extends p l.initAddr p.initCeiling ((openSession p l).setFrame Config.frameBase)
  exact hframe

theorem playState_trace (p : Params) (l : Launch) (k : Nat) (s : State) : (playState p l k s).trace = s.trace := by
  obtain ⟨htrace, -⟩ := call_extends p l.playAddr p.playCeiling (s.setFrame k)
  exact htrace

theorem playState_curFrame (p : Params) (l : Launch) (k : Nat) (s : State) : (playState p l k s).curFrame = k := by
  obtain ⟨-, hframe, -⟩ := call_extends p l.playAddr p.playCeiling (s.setFrame k)
  exact hframe

/-! ### The invariant -/

/-- What an index finds in a list with one element more: an element of the list, or the new one at its end. -/
theorem getElem?_concat_cases {α : Type} {xs : List α} {x y : α} {k : Nat} (h : (xs ++ [y])[k]? = some x) :
    xs[k]? = some x ∨ (k = xs.length ∧ x = y) := by
  rw [List.getElem?_append] at h
  split at h
  · exact .inl h
  · next hge =>
    obtain ⟨hk, hx⟩ := List.getElem?_eq_some_iff.mp h
    rw [List.length_singleton] at hk
    exact .inr ⟨by omega, by rw [← hx, List.getElem_singleton]⟩

theorem openSession_inv (p : Params) (l : Launch) : (openSession p l).Inv := by
  obtain ⟨hmem, hpending, htrace⟩ := sessionReset_inv p.initA
  have hwf : (openSession p l).mem.wf = true := storeBytes_wf l.payload l.loadAddr _ hmem
  rw [openSession_eq]
  exact ⟨hwf, hpending, htrace⟩

theorem setFrame_inv {s : State} (h : s.Inv) {k : Nat} (hk : ∀ e ∈ s.pending, e.frame = k) : (s.setFrame k).Inv := by
  obtain ⟨hmem, hpending, htrace⟩ := h
  exact ⟨hmem, fun e he => ⟨hk e he, (hpending e he).2⟩, htrace⟩

theorem dropPending_inv {s : State} (h : s.Inv) : (dropPending s).Inv := by
  obtain ⟨hmem, -, htrace⟩ := h
  exact ⟨hmem, fun _ he => absurd he List.not_mem_nil, htrace⟩

/-- A flush of the current frame appends the frame that the Trace is next to hold (10_state.md R49). -/
theorem flush_inv {s : State} (h : s.Inv) (htrace : s.trace.length = s.curFrame) : (flush s.curFrame s).Inv := by
  obtain ⟨hmem, hpending, hframes⟩ := h
  refine ⟨hmem, fun _ he => absurd he List.not_mem_nil, fun k f hf => ?_⟩
  obtain hold | ⟨hk, rfl⟩ := getElem?_concat_cases hf
  · exact hframes k f hold
  · rw [hk, htrace]
    exact ⟨rfl, fun e he => (hpending e he).1⟩

/-- The Trace holds `k` frames, and what is pending belongs to frame `k`. -/
def ReadyForFrame (k : Nat) (s : State) : Prop := s.Inv ∧ s.trace.length = k ∧ ∀ e ∈ s.pending, e.frame = k

/-- The pending events of the init call carry frame 0, to which they belong (70_reset_and_hazards.md R352). -/
theorem initState_readyForFrame (p : Params) (l : Launch) : ReadyForFrame 0 (initState p l) := by
  have hopen : ((openSession p l).setFrame Config.frameBase).Inv := setFrame_inv (openSession_inv p l) fun e he => by
    rw [openSession_eq] at he
    cases he
  have hinv : (initState p l).Inv := call_inv hopen p l.initAddr p.initCeiling
  have ⟨_, hpending, _⟩ := hinv
  exact ⟨hinv, by rw [initState_trace, List.length_nil], fun e he => (hpending e he).1.trans (initState_curFrame p l)⟩

theorem playState_inv {k : Nat} {s : State} (h : ReadyForFrame k s) (p : Params) (l : Launch) : (playState p l k s).Inv := by
  obtain ⟨hinv, -, hpending⟩ := h
  exact call_inv (setFrame_inv hinv hpending) _ _ _

theorem flush_playState_readyForFrame {k : Nat} {s : State} (h : ReadyForFrame k s) (p : Params) (l : Launch) :
    ReadyForFrame (k + 1) (flush k (playState p l k s)) := by
  have hinv := playState_inv h p l
  obtain ⟨-, hlen, -⟩ := h
  rw [← playState_trace p l k s] at hlen
  have hflush := flush_inv hinv (hlen.trans (playState_curFrame p l k s).symm)
  rw [playState_curFrame] at hflush
  exact ⟨hflush, by rw [flush_trace, List.length_append, hlen, List.length_singleton], fun _ he => absurd he List.not_mem_nil⟩

/-- Settles O41: along a session the invariant holds, every frame at its place. -/
theorem sessionsMeetTheInvariant : Obligations.SessionsMeetTheInvariant := by
  intro p l
  have hready := initState_readyForFrame p l
  have h := session_induction (P := ReadyForFrame) (Q := fun _ s => s.Inv) ⟨hready, dropPending_inv hready.1⟩
    (fun k s hs => ⟨flush_playState_readyForFrame hs p l, dropPending_inv (playState_inv hs p l)⟩) l.frameCount
  rw [runSession_eq]
  obtain ⟨s, hs, hinv, -⟩ | ⟨s, e, hs, -, hinv⟩ := h
  · rw [hs]
    exact hinv
  · rw [hs]
    exact hinv

/-! ### Replay of a Trace -/

/-- All events of some frames, in order. -/
def eventsOfFrames (frames : List Frame) : List Event := frames.flatMap (fun g => g.events)

/-- Each frame's snapshot is that of the replay of all events up to it. -/
def SnapshotsReplay (frames : List Frame) : Prop :=
  ∀ (k : Nat) (f : Frame), frames[k]? = some f →
    f.snapshot = snapshot (replay Tracker.reset (eventsOfFrames (frames.take (k + 1))))

/-- The tracker is the replay of all events, delivered and pending, and so is each delivered snapshot. -/
def Recorded (s : State) : Prop :=
  s.tracker = replay Tracker.reset (eventsOfFrames s.trace ++ s.pending) ∧ SnapshotsReplay s.trace

theorem snapshotsReplay_concat {frames : List Frame} (h : SnapshotsReplay frames) {f : Frame}
    (hf : f.snapshot = snapshot (replay Tracker.reset (eventsOfFrames (frames ++ [f])))) : SnapshotsReplay (frames ++ [f]) := by
  intro k g hg
  obtain hold | ⟨rfl, rfl⟩ := getElem?_concat_cases hg
  · obtain ⟨hlt, -⟩ := List.getElem?_eq_some_iff.mp hold
    rw [List.take_append_of_le_length hlt]
    exact h k g hold
  · rw [List.take_of_length_le (by rw [List.length_append, List.length_singleton])]
    exact hf

theorem Extends.recorded {s t : State} (h : Extends s t) (hs : Recorded s) : Recorded t := by
  obtain ⟨htrace, -, events, hpending, htracker⟩ := h
  obtain ⟨hreplay, hsnapshots⟩ := hs
  refine ⟨?_, htrace ▸ hsnapshots⟩
  rw [htracker, hreplay, htrace, hpending, ← replay_append, List.append_assoc]

/-- A flush moves the pending events into the Trace, with the snapshot of their replay (47_chip_tracker.md R272, R274). -/
theorem flush_recorded {s : State} (h : Recorded s) (k : Nat) : Recorded (flush k s) := by
  obtain ⟨hreplay, hsnapshots⟩ := h
  have hevents : eventsOfFrames (s.trace ++ [flushedFrame k s]) = eventsOfFrames s.trace ++ s.pending := by
    simp [eventsOfFrames, flushedFrame]
  refine ⟨?_, snapshotsReplay_concat hsnapshots ?_⟩
  · rw [flush_tracker, flush_trace, flush_pending, hevents, List.append_nil, hreplay]
  · rw [hevents, ← hreplay]
    rfl

theorem openSession_recorded (p : Params) (l : Launch) : Recorded (openSession p l) := by
  rw [openSession_eq]
  exact ⟨rfl, fun _ _ hf => absurd (List.mem_of_getElem? hf) List.not_mem_nil⟩

theorem initState_recorded (p : Params) (l : Launch) : Recorded (initState p l) :=
  (call_extends p l.initAddr p.initCeiling ((openSession p l).setFrame Config.frameBase)).recorded (openSession_recorded p l)

theorem playState_recorded {s : State} (h : Recorded s) (p : Params) (l : Launch) (k : Nat) : Recorded (playState p l k s) :=
  (call_extends p l.playAddr p.playCeiling (s.setFrame k)).recorded h

/-- Settles O59: along a session the tracker is the replay of all events, and a flush stores its snapshot. -/
theorem replayingEventsReconstructsEverySnapshot : Obligations.ReplayingEventsReconstructsEverySnapshot := by
  intro p l
  have h := session_induction (P := fun _ => Recorded) (Q := fun _ s => SnapshotsReplay s.trace)
    ⟨initState_recorded p l, (initState_recorded p l).2⟩
    (fun k s hs => ⟨flush_recorded (playState_recorded hs p l k) k, (playState_recorded hs p l k).2⟩) l.frameCount
  rw [captureLaunch_eq]
  obtain ⟨s, hs, -, hsnapshots⟩ | ⟨s, e, hs, -, hsnapshots⟩ := h
  · rw [hs]
    exact hsnapshots
  · rw [hs]
    exact hsnapshots

/-! ### The number of frames -/

/-- A session that succeeds has delivered its frames, one that fails those before the failed call. -/
theorem session_trace_length (p : Params) (l : Launch) (n : Nat) :
    (∃ s, session p l n = (s, none) ∧ s.trace.length = n) ∨
      ∃ s e, session p l n = (s, some e) ∧ e.frameIndex ≤ n - 1 ∧ s.trace.length = e.frameIndex := by
  have hinit : (initState p l).trace.length = 0 := by rw [initState_trace, List.length_nil]
  refine session_induction (P := fun n s => s.trace.length = n) (Q := fun k s => s.trace.length = k) ⟨hinit, hinit⟩
    (fun k s hs => ?_) n
  have hplay : (playState p l k s).trace.length = k := by rw [playState_trace, hs]
  exact ⟨by rw [flush_trace, List.length_append, hplay, List.length_singleton], hplay⟩

/-- A play call appends its frame to the Trace, or nothing. -/
theorem playFrame_trace (p : Params) (l : Launch) (k : Nat) (s : State) :
    ∃ frames, (playFrame p l k s).1.trace = s.trace ++ frames := by
  obtain h | ⟨e, -, h⟩ := playFrame_cases p l k s
  · exact ⟨_, by rw [h, flush_trace, playState_trace]⟩
  · exact ⟨[], by rw [h, dropPending_trace, playState_trace, List.append_nil]⟩

/-- Settles O60: one frame more leaves the frames before it as they are. -/
theorem shorterCapturesArePrefixes : Obligations.ShorterCapturesArePrefixes := by
  intro p l n m hle
  change (session p l n).1.trace = (session p l m).1.trace.take n
  induction m, hle using Nat.le_induction with
  | base =>
    obtain ⟨s, hs, hlen⟩ | ⟨s, e, hs, hindex, hlen⟩ := session_trace_length p l n
    all_goals
      rw [hs, List.take_of_length_le]
      change s.trace.length ≤ n
      omega
  | succ m hle ih =>
    rw [ih]
    obtain ⟨s, hs, hlen⟩ | ⟨s, e, hs, -, -⟩ := session_trace_length p l m
    · obtain ⟨frames, hframes⟩ := playFrame_trace p l m s
      rw [session_succ_of_none hs, hframes, hs, List.take_append_of_le_length (by omega)]
    · rw [session_succ_of_error hs, hs]

/-! ### The report of a failing call -/

theorem session_of_init_fault {p : Params} {l : Launch} {f : Fault} {s : State} (h : initCall p l = .fault f s) (n : Nat) :
    session p l n = (dropPending s, some (initError f)) := by
  rw [session_eq, h]

theorem session_zero_of_init_done {p : Params} {l : Launch} {used : Nat} {s : State} (h : initCall p l = .done used s) :
    session p l 0 = (s, none) := by
  rw [session_eq, h]
  rfl

theorem playFrame_of_done {p : Params} {l : Launch} {k used : Nat} {s t : State}
    (h : call p l.playAddr p.playCeiling (s.setFrame k) = .done used t) : playFrame p l k s = (flush k t, none) := by
  rw [playFrame, h]

theorem playFrame_of_fault {p : Params} {l : Launch} {k : Nat} {f : Fault} {s t : State}
    (h : call p l.playAddr p.playCeiling (s.setFrame k) = .fault f t) : playFrame p l k s = (dropPending t, some (playError k f)) := by
  rw [playFrame, h]

/-- A failing init call is the whole capture (70_reset_and_hazards.md R353). -/
theorem captureLaunch_of_init_fault {p : Params} {l : Launch} {f : Fault} {s : State} (h : initCall p l = .fault f s) :
    captureLaunch p l = ⟨[], some (initError f)⟩ := by
  have htrace := initState_trace p l
  rw [initState, h] at htrace
  rw [captureLaunch_eq, session_of_init_fault h, dropPending_trace]
  exact congrArg (CaptureResult.mk · _) htrace

/-- A failing play call ends the capture with the frames before it (70_reset_and_hazards.md R356). -/
theorem captureLaunch_of_play_fault {p : Params} {l : Launch} {k : Nat} {f : Fault} {s t : State} (hk : k < l.frameCount)
    (hs : session p l k = (s, none)) (h : call p l.playAddr p.playCeiling (s.setFrame k) = .fault f t) :
    captureLaunch p l = ⟨s.trace, some (playError k f)⟩ := by
  have htrace := playState_trace p l k s
  rw [playState, h] at htrace
  have hfailed := (session_succ_of_none hs).trans (playFrame_of_fault h)
  rw [captureLaunch_eq, session_of_error_of_le hfailed hk, dropPending_trace]
  exact congrArg (CaptureResult.mk · _) htrace

/-- Settles O58: the frames delivered are counted along the session, and a fault of a call is the capture's report. -/
theorem capturesDeliverExactlyTheirFrames : Obligations.CapturesDeliverExactlyTheirFrames := by
  intro p l
  refine ⟨fun hnone => ?complete, fun e he => ?failed, fun pc op s h => captureLaunch_of_init_fault h,
    fun pc op used s h => captureLaunch_of_init_fault h, fun used s h => session_zero_of_init_done h,
    fun k s hk hs => ⟨fun pc op t h => captureLaunch_of_play_fault hk hs h,
      fun pc op used t h => captureLaunch_of_play_fault hk hs h,
      fun used t h => (session_succ_of_none hs).trans (playFrame_of_done h)⟩⟩
  case complete =>
    rw [captureLaunch_eq] at hnone ⊢
    obtain ⟨s, hs, hlen⟩ | ⟨s, e, hs, -, -⟩ := session_trace_length p l l.frameCount
    · rwa [hs]
    · rw [hs] at hnone
      cases hnone
  case failed =>
    rw [captureLaunch_eq] at he ⊢
    obtain ⟨s, hs, -⟩ | ⟨s, e', hs, hindex, hlen⟩ := session_trace_length p l l.frameCount
    · rw [hs] at he
      cases he
    · rw [hs] at he ⊢
      cases he
      exact ⟨hlen, fun hpos => by omega⟩

end Sys2Proof.Machine
end
